-- ==== Sys2Proof/Word.lean ====
section
/-! DEFINITION. The words of the A612: bytes as they cross a pin, the numbers of its objects, and an exact value. -/

namespace Sys2Proof

/-- One byte on the host link or on the field link (chapter 11). -/
abbrev Byte := BitVec 8

/-- Lanes 0 to 11 (00_scope.md, Names). -/
abbrev LaneId := Fin 12
/-- Blowers 0 to 5. -/
abbrev BlowerId := Fin 6
/-- Trains 0 to 3; RAS pump t belongs to train t. -/
abbrev TrainId := Fin 4
/-- Field hubs 0 to 3. -/
abbrev HubId := Fin 4
/-- Incident capture channels 0 to 3. -/
abbrev ChannelId := Fin 4
/-- Input points 0 to 95. -/
abbrev PointId := Fin 96
/-- Output slots 0 to 47. -/
abbrev SlotId := Fin 48
/-- Alarm catalogue entries 0 to 103. -/
abbrev AlarmId := Fin 104

/-- An exact, unrounded value num / den: the point filter's running value (R169: "carried from sample
to sample unrounded"). It is kept in lowest terms with den above 0. -/
structure Exact where
  num : Int
  den : Nat
  deriving DecidableEq, Repr

end Sys2Proof
end

