-- ==== Sys2Proof/Config.lean ====
section
/-! DEFINITION. What the manual leaves open: constants with no body, of which nothing can be proved but their type. -/

namespace Sys2Proof.Config

/-- The vendor code IDENTIFY returns (R188); the manual does not give its value. -/
opaque vendorCode : Nat

/-- The part code IDENTIFY returns (R188); the manual does not give its value. -/
opaque partCode : Nat

/-- The silicon revision IDENTIFY returns (R188); the manual does not give its value. -/
opaque siliconRevision : Nat

/-- The period number after one more completed period when it stands at 4294967295 (R19 adds one, the range of
section 1.1 ends there, and no rule says what follows), per lane. It is read modulo 2^32 and so keeps the range. -/
opaque periodNumberPastMax : LaneId → Nat

/-- The value of a point whose rounded value, here the argument, falls outside the signed 32-bit range of section 9.5:
spans at the ends of that range let R166's line pass it, and no rule states the value. Any 32-bit value. -/
opaque pointValueOutside : Int → BitVec 32

/-- The bytes sent for a number that is too large for the width of its field (R191 gives widths from ranges, and an age
in seconds, for one, may pass two bytes): width in bytes and the number, to the field's contents. -/
opaque fieldPastWidth : Nat → Int → Nat

end Sys2Proof.Config
end

