-- ==== Sys2Proof/Syntax.lean ====
section
/-! DEFINITION. The commands of the A612: one constructor of `Instr` per row of spec/opcode_table.json.
A request's operands are its length byte `len` (R184, R185) and its body's fields in the order the owner's rule lists
them (R191), as plain numbers, so that a field out of range can be sent; an absent point or train is `none` (sent as
0xFF). An event's operands name the object it comes about at. -/

namespace Sys2Proof

/-- POINT_SET's body after the point number (R171). `kind` is a code of section 11.4. -/
structure PointFields where
  kind : Nat
  spanLow : Int
  spanHigh : Int
  filter : Nat
  staleLimit : Nat
  deriving DecidableEq, Repr

/-- LANE_SET's body after the lane number: the structural fields, then the tuning fields, in the order of the tables
of section 1.1 (the valve curve comes with LANE_CURVE). YES/NO fields are codes: 0 NO, 1 YES (section 11.4). -/
structure LaneFields where
  train : Option Nat
  doPoint : Nat
  nh4Point : Option Nat
  airflowPoint : Nat
  feedbackPoint : Option Nat
  valveSlot : Nat
  minAir : Nat
  maxAir : Nat
  airPriority : Nat
  period : Nat
  doSetpoint : Nat
  stormSetpoint : Nat
  doLow : Nat
  doHigh : Nat
  kp : Nat
  ti : Nat
  feedForward : Nat
  cascadeEnable : Nat
  nh4Setpoint : Nat
  cascadeGain : Nat
  spLow : Nat
  spHigh : Nat
  cascadeDivider : Nat
  flowGain : Nat
  correctionLimit : Nat
  releaseDeadband : Nat
  mismatchTolerance : Nat
  mismatchCount : Nat
  stallWindow : Nat
  retryLimit : Nat
  valveDeadband : Nat
  feedbackTolerance : Nat
  wakeOnStorm : Nat
  returnToPark : Nat
  fallbackAir : Nat
  deriving DecidableEq, Repr

/-- LANE_FAULT_SET's body after the lane number (R28): the enable set as a mask (bit n for the kind of code n + 1, R191),
then codes of section 11.4. -/
structure FaultFields where
  enableMask : Nat
  substitution : Nat
  faultMode : Nat
  fallback : Nat
  deriving DecidableEq, Repr

/-- AIR_SET's body: the six parameters (section 3.7, R64). -/
structure AirFields where
  starvationLimit : Nat
  stageInDelay : Nat
  stageOutDelay : Nat
  stageOutMargin : Nat
  loadFreeze : Nat
  minOnline : Nat
  deriving DecidableEq, Repr

/-- The sequence fields of a blower (section 4.1). -/
structure SeqFields where
  startAllowance : Nat
  minSpeed : Nat
  maxSpeed : Nat
  blowoffTime : Nat
  runConfirm : Nat
  rampTime : Nat
  stopConfirm : Nat
  retryDelay : Nat
  attemptLimit : Nat
  deferralLimit : Nat
  surgeCount : Nat
  surgeHold : Nat
  deriving DecidableEq, Repr

/-- BLOWER_SET's body after the blower number: structural fields, then sequence fields (section 4.1, R68). -/
structure BlowerFields where
  runPoint : Nat
  flowPoint : Nat
  blowoffPoint : Option Nat
  runSlot : Nat
  speedSlot : Nat
  blowoffSlot : Nat
  ratedCapacity : Nat
  surgeMinFlow : Nat
  runKw : Nat
  seq : SeqFields
  deriving DecidableEq, Repr

/-- HEADER_SET's body (section 4.8, R89). -/
structure HeaderFields where
  pressurePoint : Nat
  initialSetpoint : Nat
  minSetpoint : Nat
  maxSetpoint : Nat
  movHigh : Nat
  movLow : Nat
  movStep : Nat
  movPeriod : Nat
  headerPeriod : Nat
  speedKp : Nat
  speedTi : Nat
  headerLowLimit : Nat
  deriving DecidableEq, Repr

/-- TRAIN_SET's body after the train number: structural fields, then pacing fields (section 6.1, R111). -/
structure TrainFields where
  influentPoint : Nat
  rasFlowPoint : Nat
  blanketPoint : Option Nat
  runPoint : Nat
  runSlot : Nat
  speedSlot : Nat
  ratedKw : Nat
  lanes : List Nat
  normalRatio : Nat
  stormRatio : Nat
  rasMin : Nat
  rasMax : Nat
  blanketHigh : Nat
  blanketHysteresis : Nat
  blanketBoost : Nat
  pacingPeriod : Nat
  speedGain : Nat
  minSpeed : Nat
  maxSpeed : Nat
  runConfirm : Nat
  limitedDelay : Nat
  deriving DecidableEq, Repr

/-- STORM_SET's body (section 6.6, R123). -/
structure StormFields where
  influentPoint : Nat
  stormIn : Nat
  stormOut : Nat
  inCount : Nat
  outCount : Nat
  evalPeriod : Nat
  deriving DecidableEq, Repr

/-- CAPTURE_SET's body after the channel number (R153); the trigger settings are codes 0 NO, 1 YES. -/
structure CaptureFields where
  point : Nat
  interval : Nat
  preCount : Nat
  hostTrigger : Nat
  stormTrigger : Nat
  matchEntry : Nat
  matchMask : Nat
  deriving DecidableEq, Repr

/-- A complete return frame, as received (sections 9.3 and 11.6): everything after the sync. `crc` is the received
frame check; the field link works out whether it passes. -/
structure ReturnFrame where
  hubId : Byte
  mask : BitVec 24
  samples : Vector (BitVec 16) 24
  requestCode : Byte
  objectIndex : Byte
  echo : Byte
  status : Byte
  value : BitVec 16
  crc : Byte
  deriving DecidableEq, Repr

/-- The commands: requests of the plant processor, and the events that reach the part. -/
inductive Instr where
  -- resets and the host line
  | coldReset (strap1 strap0 : Bool)
  | resetPinAsserted
  | hostFrameDiscarded (bytes : List Byte)
  | interbyteTimeout (bytes : List Byte)
  | frameDuringReply (kind : Nat) (body : List Byte)
  | unknownKindRequest (kind : Nat) (body : List Byte)
  -- requests: field hubs and points
  | pointSet (len point : Nat) (f : PointFields)
  | pointRead (len first count : Nat)
  | pointMaint (len point time : Nat)
  | hubRead (len hub : Nat)
  | hubRequestTake (len hub : Nat)
  | hubService (len hub code address value : Nat)
  | serviceResult (len : Nat)
  -- requests: lanes
  | laneSet (len lane : Nat) (f : LaneFields)
  | laneCurve (len lane : Nat) (curve : List (Nat × Nat))
  | laneMode (len lane mode : Nat)
  | laneManualAir (len lane air : Nat)
  | laneFaultSet (len lane : Nat) (f : FaultFields)
  | laneGate (len lane gate : Nat)
  | laneRelease (len lane : Nat)
  | laneRead (len lane part : Nat)
  | laneFaultRead (len lane clear : Nat)
  -- requests: air allocator
  | airSet (len : Nat) (f : AirFields)
  | airFreeze (len seconds : Nat)
  | airRead (len : Nat)
  -- requests: blowers and header
  | blowerSet (len blower : Nat) (f : BlowerFields)
  | blowerStart (len blower : Nat)
  | blowerStop (len blower : Nat)
  | blowerReset (len blower : Nat)
  | blowerLockout (len blower : Nat)
  | blowerUnlock (len blower : Nat)
  | dutySet (len : Nat) (duty : List Nat)
  | headerSet (len : Nat) (f : HeaderFields)
  | blowerRead (len blower part : Nat)
  | headerRead (len : Nat)
  -- requests: power budget
  | ceilingSet (len ceiling mode shedDelay : Nat)
  | budgetRead (len : Nat)
  -- requests: flow pacing
  | trainSet (len train : Nat) (f : TrainFields)
  | pumpStart (len train : Nat)
  | pumpStop (len train : Nat)
  | pumpReset (len train : Nat)
  | pumpLockout (len train : Nat)
  | pumpUnlock (len train : Nat)
  | stormSet (len : Nat) (f : StormFields)
  | stormForce (len force : Nat)
  | trainRead (len train part : Nat)
  -- requests: alarms
  | alarmSet (len entry priority onDelay offDelay : Nat)
  | escalationSet (len time threshold : Nat)
  | alarmAck (len entry : Nat)
  | alarmShelve (len entry time : Nat)
  | alarmUnshelve (len entry : Nat)
  | silence (len : Nat)
  | alarmListRead (len view page : Nat)
  | historyRead (len count : Nat)
  -- requests: capture
  | captureSet (len channel : Nat) (f : CaptureFields)
  | captureArm (len channel : Nat)
  | captureTrigger (len channel : Nat)
  | captureRead (len channel offset count : Nat)
  | captureRelease (len channel : Nat)
  -- requests: host link
  | identify (len : Nat)
  | statusRead (len : Nat)
  | noticeRead (len : Nat)
  | restart (len : Nat)
  | warmRestart
  -- the frame clock and the field link
  | framePeriodBoundary
  | uptimeSecond
  | returnFrameJudged (line : HubId) (frame : ReturnFrame)
  | returnMiss (hub : HubId)
  | hubAbsentEntered (hub : HubId)
  | hubPresentEntered (hub : HubId)
  | pointStale (point : PointId)
  | maintWindowEnd (point : PointId)
  | serviceNoAnswer
  -- lanes
  | lanePeriod (lane : LaneId)
  | flowMismatchDetected (lane : LaneId)
  | valveWindowEnd (lane : LaneId)
  | valveRetryRevalidate (lane : LaneId)
  -- air allocator
  | airServing
  | freezeEnd
  | entryStarved (lane : LaneId)
  | stageInWanted
  | stageOutWanted
  -- power budget and blowers
  | powerAdmission
  | blowoffTimeEnd (blower : BlowerId)
  | runConfirmTimeout (blower : BlowerId)
  | rampTimeout (blower : BlowerId)
  | retryDelayEnd (blower : BlowerId)
  | startDeferred (blower : BlowerId)
  | unloadingTimeEnd (blower : BlowerId)
  | stopConfirmTimeout (blower : BlowerId)
  | blowerFoundRunning (blower : BlowerId)
  | surgeDetected (blower : BlowerId)
  | surgeHoldEnd (blower : BlowerId)
  | surgeWatchEnd (blower : BlowerId)
  | headerPeriod
  | movPeriod
  | shedTimerExpiry
  -- flow pacing
  | pacingPeriod (train : TrainId)
  | blanketBoostOn (train : TrainId)
  | pumpRunConfirmTimeout (train : TrainId)
  | pumpFoundRunning (train : TrainId)
  | rasLimited (train : TrainId)
  | stormEvaluation
  | stormEntry
  | stormExit
  -- alarms and capture
  | onDelayEnd (entry : AlarmId)
  | clearingEnd (entry : AlarmId)
  | shelfEnd (entry : AlarmId)
  | escalation (entry : AlarmId)
  | captureSample (channel : ChannelId)
  | captureFrozen (channel : ChannelId)
  deriving DecidableEq, Repr

end Sys2Proof
end

