-- ==== Sys2Proof/Decode.lean ====
section
/-! DEFINITION. The command a table word spells: no row of spec/opcode_table.json gives bits, so no word spells one. -/

namespace Sys2Proof

/-- No row of the table has a pattern of bits: the answer is always `none`. -/
def decodeTableWord (_nbits _w : Nat) : Option Instr := none

end Sys2Proof
end

