-- ==== Sys2Proof/Machine/State.lean ====
section
/-! DEFINITION. The state of the A612, all of it as plain data, the faults and refusals, and the state after reset. -/

namespace Sys2Proof.Machine

/-- No command of the A612 stops the part: the manual names no fault that ends its work, so nothing raises a fault. -/
inductive Fault where
  deriving DecidableEq, Repr

/-- Why a command has no meaning in the model. -/
inductive Refusal where
  /-- The command of this mnemonic has no meaning yet: raised by a refused arm of `exec` only; safe. -/
  | notModelled (mnemonic : String)
  deriving DecidableEq, Repr

/-! ### Points and slots (chapter 9) -/

/-- How raw samples of a point are read (section 9.5). -/
inductive PointKind where
  | unused | analog | discrete
  deriving DecidableEq, Repr

/-- Whether a point's value can be used, and if not why (R168). -/
inductive Quality where
  | good | unbound | absent | maint | stale | overrange | underrange
  deriving DecidableEq, Repr

/-- An input point record (section 9.5). -/
structure Point where
  kind : PointKind
  spanLow : Int
  spanHigh : Int
  filter : Nat
  staleLimit : Nat
  raw : Nat
  value : Int
  filterState : Exact
  quality : Quality
  age : Nat
  maint : Option Nat
  deriving DecidableEq, Repr

/-- The object and role that own an output slot (section 9.7). -/
inductive Claimant where
  | none
  | laneValve (l : LaneId)
  | blowerRun (b : BlowerId)
  | blowerSpeed (b : BlowerId)
  | blowerBlowoff (b : BlowerId)
  | pumpRun (t : TrainId)
  | pumpSpeed (t : TrainId)
  deriving DecidableEq, Repr

/-- An output slot record (section 9.7). -/
structure Slot where
  claimant : Claimant
  value : Nat
  valid : Bool
  deriving DecidableEq, Repr

/-! ### The field link (chapter 9) -/

/-- A hub's panel request (section 9.8). -/
inductive HubCode where
  | localSelect | probeService | panelFault
  deriving DecidableEq, Repr

/-- A hub record (section 9.4), with the last GOOD frame's sample-valid mask (R180) and whether the hub has been judged
in the frame period under way (R162: once in every frame period). -/
structure Hub where
  present : Bool
  missCount : Nat
  goodCount : Nat
  wiring : Bool
  latch : Option (HubCode × Nat)
  lastMask : BitVec 24
  judged : Bool
  deriving DecidableEq, Repr

/-- How a service transaction ended (section 9.9). -/
inductive ServiceResult where
  | ok | refusedByHub | noAnswer | absent | restarted
  deriving DecidableEq, Repr

/-- The state of the service transaction; the result and the value returned are present in DONE. -/
inductive ServiceState where
  | idle
  | sent
  | done (result : ServiceResult) (value : Nat)
  deriving DecidableEq, Repr

/-- The single service transaction (section 9.9). `inFrame` says whether the outbound frame of the period under way
carried this transaction's slot (R178). -/
structure Service where
  state : ServiceState
  target : HubId
  code : Nat
  address : Nat
  value : Nat
  carried : Nat
  inFrame : Bool
  deriving DecidableEq, Repr

/-- The outbound frame of the period under way: the commands of the valid slots, the busy flags, the service slot
(R161). -/
structure Outbound where
  commands : Vector (Option Nat) 48
  busy : Vector Bool 4
  service : Option (HubId × Nat × Nat × Nat)
  deriving DecidableEq, Repr

/-! ### Lanes (chapters 1 and 2) -/

/-- AUTO or MANUAL: the target mode of ADOPTING, the return mode of HOLD. -/
inductive RunMode where
  | auto | manual
  deriving DecidableEq, Repr

/-- A lane's mode (section 1.3); the target mode is present in ADOPTING, the return mode in HOLD. -/
inductive LaneMode where
  | unconfigured | outOfService | parked
  | adopting (target : RunMode)
  | auto | manual
  | hold (ret : RunMode)
  deriving DecidableEq, Repr

/-- The six trim fault kinds (section 2.2). -/
inductive FaultKind where
  | absentInput | range | cascadeInput | saturation | flowUnusable | flowMismatch
  deriving DecidableEq, Repr

/-- The substitution mode (section 2.1). -/
inductive Substitution where
  | holdLast | lean | rich | fixed
  deriving DecidableEq, Repr

/-- A lane's fault configuration (section 2.1). The enable set is a mask over the fault kinds. -/
structure FaultConfig where
  enabled : BitVec 6
  substitution : Substitution
  continues : Bool
  fallback : Bool
  deriving DecidableEq, Repr

/-- A lane's fault record (R37). -/
structure FaultRecord where
  kind : FaultKind
  periodNumber : Nat
  doValue : Int
  doQuality : Quality
  setpoint : Nat
  demandBefore : Nat
  deriving DecidableEq, Repr

/-- Where a retry of a supervised move stands (R22): no retry, slot made not valid and not yet sent so, sent so. -/
inductive RetryPhase where
  | none | dropped | sent
  deriving DecidableEq, Repr

/-- The valve move under supervision (sections 1.1 and 1.5). `tolerance` and `retryLimit` are the feedback tolerance and
the retry limit in force: as the record held them when the lane's latest period began (R2, R40). -/
structure Supervision where
  moving : Bool
  target : Nat
  window : Nat
  retries : Nat
  preGrant : Option Nat
  command : Nat
  retry : RetryPhase
  tolerance : Nat
  retryLimit : Nat
  deriving DecidableEq, Repr

/-- Load memory (section 1.1, R14). -/
structure LoadMemory where
  influent : Option Int
  ras : Option Int
  previous : Option Int
  deriving DecidableEq, Repr

/-- A lane record (sections 1.1 and 2.1) less its grant, which the allocator's grant table holds (R47). The valve curve
is empty when none has been given. `airPriority` and `correctionLimit` are the two in force: a changed one comes into
force at the lane's next period, the air priority of a lane with an entry in the request queue when the LANE_SET is taken
(R2); a lane's first LANE_SET brings its own into force (assumption log 30). -/
structure Lane where
  config : Option LaneFields
  curve : List (Nat × Nat)
  faultConfig : FaultConfig
  mode : LaneMode
  timer : Option Nat
  periodNumber : Nat
  setpoint : Nat
  cascaded : Nat
  previousError : Int
  bumpless : Bool
  demand : Nat
  lastValveGrant : Nat
  manualAir : Nat
  correction : Int
  valveCommand : Nat
  load : LoadMemory
  sup : Supervision
  stalled : Bool
  mismatchRun : Nat
  woken : Bool
  cause : Option FaultKind
  record : Option FaultRecord
  sticky : BitVec 6
  openLoopSticky : Bool
  gateOpen : Bool
  airPriority : Nat
  correctionLimit : Nat
  deriving DecidableEq, Repr

/-! ### Air allocator (chapter 3) -/

/-- The freeze (section 3.1). -/
inductive Freeze where
  | none
  | seconds (n : Nat)
  | indefinite
  deriving DecidableEq, Repr

/-- An entry of the air request queue (section 3.1). -/
structure AirEntry where
  lane : LaneId
  amount : Nat
  posted : Nat
  starved : Bool
  deriving DecidableEq, Repr

/-- The allocator's records (section 3.1). -/
structure Air where
  capacity : List (BlowerId × Nat)
  grants : Vector Nat 12
  holdMarks : Vector Bool 12
  queue : List AirEntry
  freeze : Freeze
  short : Bool
  lastTimeout : Option LaneId
  shortfall : Option Nat
  surplus : Option Nat
  params : AirFields
  deriving DecidableEq, Repr

/-! ### Blowers and the header (chapter 4) -/

/-- What began a start. -/
inductive Origin where
  | command | staging
  deriving DecidableEq, Repr

/-- The steps of STARTING (section 4.3). -/
inductive StartStep where
  | waitPower | blowoffOpen | motorStart | ramp | loading | retryWait
  deriving DecidableEq, Repr

/-- The steps of STOPPING (R79). -/
inductive StopStep where
  | unloading | runDown
  deriving DecidableEq, Repr

/-- A blower's state (section 4.2); the step, origin and sequence copy are present in STARTING, the step in STOPPING. -/
inductive BlowerState where
  | unconfigured | adopting | off
  | starting (step : StartStep) (origin : Origin) (copy : SeqFields)
  | online
  | stopping (step : StopStep)
  | tripped | failed | lockedOut
  deriving DecidableEq, Repr

/-- A blower's standing at the power budget (section 4.1). -/
inductive BlowerPower where
  | none | waiting | start | run
  deriving DecidableEq, Repr

/-- Why an attempt or a stop failed (section 4.1). -/
inductive FailureCause where
  | none | noRunFeedback | rampTimeout | blowoffTimeout | trippedInStart | noStop
  deriving DecidableEq, Repr

/-- How the latest start ended (section 4.1). -/
inductive StartOutcome where
  | inProgress | online | failed | aborted
  deriving DecidableEq, Repr

/-- The start-result record (section 4.1). -/
structure StartResult where
  attempts : Nat
  cause : FailureCause
  waited : Nat
  outcome : StartOutcome
  deriving DecidableEq, Repr

/-- The surge guard's phases (section 4.7). -/
inductive GuardPhase where
  | idle | holding | watching
  deriving DecidableEq, Repr

/-- The surge guard of a blower (section 4.1). `threshold` is the surge count the guard read when its phase began
(R68). -/
structure Guard where
  phase : GuardPhase
  lowFlow : Nat
  remaining : Nat
  threshold : Nat
  deriving DecidableEq, Repr

/-- A blower record (section 4.1). -/
structure Blower where
  config : Option BlowerFields
  state : BlowerState
  stepTimer : Option Nat
  power : BlowerPower
  foundRunning : Nat
  surge : Guard
  blind : Bool
  result : Option StartResult
  deriving DecidableEq, Repr

/-- The header controller (section 4.8); not configured while `config` is absent. -/
structure Header where
  config : Option HeaderFields
  setpoint : Nat
  commonSpeed : Nat
  previousError : Option Int
  range : Option (Nat × Nat)
  lastMov : Option Nat
  timer : Option Nat
  movTimer : Option Nat
  deriving DecidableEq, Repr

/-! ### Power budget (chapter 5) -/

/-- Who may hold a commitment: blowers 0 to 5 and RAS pumps 0 to 3. -/
inductive Holder where
  | blower (b : BlowerId)
  | pump (t : TrainId)
  deriving DecidableEq, Repr

/-- The kinds of commitment (R97). -/
inductive CommitKind where
  | start | run | pump
  deriving DecidableEq, Repr

/-- An entry of the commitment list. -/
structure Commit where
  holder : Holder
  kind : CommitKind
  kw : Nat
  admitted : Nat
  deriving DecidableEq, Repr

/-- An entry of the budget's wait queue. -/
structure PowerEntry where
  holder : Holder
  cls : Nat
  kw : Nat
  posted : Nat
  deriving DecidableEq, Repr

/-- The power budget's records (section 5.1); the ceiling is absent when UNLIMITED. -/
structure Budget where
  ceiling : Option Nat
  hard : Bool
  shedDelay : Nat
  shedding : Bool
  commits : List Commit
  waits : List PowerEntry
  shedTimer : Option Nat
  deriving DecidableEq, Repr

/-! ### Flow pacing (chapter 6) -/

/-- The steps of a pump's STARTING (section 6.1). -/
inductive PumpStep where
  | waitPower | runConfirm
  deriving DecidableEq, Repr

/-- A RAS pump's state (section 6.1). -/
inductive PumpState where
  | unconfigured | adopting | off
  | starting (step : PumpStep)
  | running | tripped | lockedOut
  deriving DecidableEq, Repr

/-- A pump's standing at the power budget. -/
inductive PumpPower where
  | none | waiting | pump
  deriving DecidableEq, Repr

/-- A train record (section 6.1). `minSpeed` and `limitedDelay` are the two pacing fields in force that are read between
pacing periods: as the record held them at the train's latest pacing period (R111, assumption log 31). `startSpeed` is the
min speed that the start under way was presented with (R114, assumption log 31). -/
structure Train where
  config : Option TrainFields
  state : PumpState
  stepTimer : Option Nat
  power : PumpPower
  withdrawn : Bool
  speed : Nat
  increaseTarget : Option Nat
  increaseWait : Nat
  foundRunning : Nat
  rasSetpoint : Option Nat
  blanketRun : Nat
  boost : Bool
  timer : Option Nat
  minSpeed : Nat
  limitedDelay : Nat
  startSpeed : Nat
  deriving DecidableEq, Repr

/-- The plant force (section 6.6). -/
inductive Force where
  | auto | storm | normal
  deriving DecidableEq, Repr

/-- The plant record (section 6.6); not configured while `config` is absent. -/
structure Plant where
  config : Option StormFields
  storm : Bool
  force : Force
  runCount : Nat
  timer : Option Nat
  pumpCap : Bool
  deriving DecidableEq, Repr

/-! ### Alarm unit (chapter 7) -/

/-- The states of an alarm entry (section 7.2). -/
inductive EntryState where
  | disabled | normal | onDelay | activeUnack | activeAck | clearedUnack | shelved | suppressed
  deriving DecidableEq, Repr

/-- An alarm entry record (section 7.2). -/
structure Entry where
  priority : Nat
  onDelay : Nat
  offDelay : Nat
  state : EntryState
  condition : Bool
  onTimer : Option Nat
  clearTimer : Option Nat
  shelf : Option Nat
  stamp : Nat
  raises : Nat
  stage : Nat
  escTimer : Option Nat
  deriving DecidableEq, Repr

/-- The transitions a history record names (section 7.7). -/
inductive Transition where
  | raised | returned | acked | shelved | unshelved | escalated
  deriving DecidableEq, Repr

/-- An alarm history record (section 7.7). -/
structure HistoryRecord where
  entry : AlarmId
  transition : Transition
  stage : Nat
  uptime : Nat
  deriving DecidableEq, Repr

/-- The beacon line (R144). -/
inductive Beacon where
  | off | steady | flashing
  deriving DecidableEq, Repr

/-- The alarm unit: the catalogue, the suppression flags, the history queue, the settings, and the three alarm lines.
The active list is worked out from the entries (`activeList`, R142). `beaconFrames` counts frames since FLASHING began. -/
structure AlarmUnit where
  entries : Vector Entry 104
  laneFlags : Vector Bool 12
  blowerFlags : Vector Bool 6
  trainFlags : Vector Bool 4
  history : List HistoryRecord
  wrapped : Bool
  silenced : Option Nat
  escTime : Nat
  escThreshold : Nat
  horn : Bool
  beacon : Beacon
  beaconFrames : Nat
  dialOut : Bool
  deriving DecidableEq, Repr

/-! ### Incident capture (chapter 8) -/

/-- The states of a capture channel. -/
inductive CaptureState where
  | idle | primed | triggered | frozen
  deriving DecidableEq, Repr

/-- What triggered a channel. -/
inductive TriggerSource where
  | host
  | storm
  | alarm (e : AlarmId)
  deriving DecidableEq, Repr

/-- The trigger record (section 8.1). -/
structure TriggerRecord where
  source : TriggerSource
  uptime : Nat
  actualPre : Nat
  deriving DecidableEq, Repr

/-- A capture sample: the point's value and quality. -/
structure Sample where
  value : Int
  quality : Quality
  deriving DecidableEq, Repr

/-- A capture channel record (section 8.1). Its configuration fields are 0, NO and mask 0 until CAPTURE_SET. -/
structure Channel where
  configured : Bool
  fields : CaptureFields
  state : CaptureState
  ring : List Sample
  intervalCount : Nat
  trigger : Option TriggerRecord
  postRemaining : Nat
  missed : Bool
  deriving DecidableEq, Repr

/-! ### Host link (chapter 10) -/

/-- The 28 notice sources (section 10.3). -/
inductive Source where
  | lane (l : LaneId)
  | blower (b : BlowerId)
  | train (t : TrainId)
  | air | budget | alarm | link | capture | host
  deriving DecidableEq, Repr

/-- A notice record (R186); the cause set is the mask of section 11.3, bit n for the source's cause n. -/
structure Notice where
  source : Source
  causes : Byte
  posted : Nat
  deriving DecidableEq, Repr

/-- Refusal reasons (00_scope.md). -/
inductive Reason where
  | unknownKind | badLength | range | state | busy | conflict | unconfigured
  deriving DecidableEq, Repr

/-- One field of a reply body at its width on the wire (R191); `i32` is two's complement. -/
inductive WireField where
  | u8 (n : Nat)
  | u16 (n : Nat)
  | u24 (n : Nat)
  | u32 (n : Nat)
  | i16 (z : Int)
  | i32 (z : Int)
  deriving DecidableEq, Repr

/-- A reply: its kind byte and its body, field by field (R185). -/
structure Reply where
  kind : Nat
  body : List WireField
  deriving DecidableEq, Repr

/-- The speeds of the host link (R183). -/
inductive Baud where
  | b19200 | b38400 | b115200 | b230400
  deriving DecidableEq, Repr

/-- The state of the A612. `pending` is the queue of commands waiting, first in, first out; everything else is the part.
`held` is the RESET pin; `restarting` says a RESTART reply is on its way and the warm restart follows its last byte
(R190); `rx` holds the bytes of a host frame being received; `reply` is the reply sent last; `attn` is the ATTN line,
true while asserted; `frameCount` counts frame periods toward the next second of uptime; `outbound` is the outbound
frame of the frame period under way, absent before the first. -/
structure State where
  pending : List Instr
  held : Bool
  restarting : Bool
  baud : Baud
  rx : List Byte
  reply : Option Reply
  notices : List Notice
  attn : Bool
  frameCount : Nat
  uptime : Nat
  outbound : Option Outbound
  hubs : Vector Hub 4
  service : Service
  points : Vector Point 96
  slots : Vector Slot 48
  lanes : Vector Lane 12
  air : Air
  blowers : Vector Blower 6
  duty : List BlowerId
  online : List BlowerId
  header : Header
  budget : Budget
  trains : Vector Train 4
  plant : Plant
  alarm : AlarmUnit
  channels : Vector Channel 4
  deriving DecidableEq, Repr

/-! ### Cold values -/

/-- Cold point record (R181). -/
def Point.cold : Point :=
  { kind := .unused, spanLow := 0, spanHigh := 1, filter := 0, staleLimit := 25, raw := 0, value := 0,
    filterState := ⟨0, 1⟩, quality := .unbound, age := 255, maint := none }

/-- Cold slot record (R181). -/
def Slot.cold : Slot := { claimant := .none, value := 0, valid := false }

/-- Cold hub record (R181). -/
def Hub.cold : Hub :=
  { present := false, missCount := 0, goodCount := 0, wiring := false, latch := none, lastMask := 0, judged := false }

/-- The IDLE transaction with its fields cleared (R179, R181). A cleared target, code, address and value are held, and sent
in HUB_READ, as 0 (assumption log 14). -/
def Service.cold : Service :=
  { state := .idle, target := 0, code := 0, address := 0, value := 0, carried := 0, inFrame := false }

/-- Cold fault configuration (R44). -/
def FaultConfig.cold : FaultConfig :=
  { enabled := 0b101111#6, substitution := .holdLast, continues := false, fallback := false }

/-- Supervision IDLE with supervised command 0 and no pre-increase grant (R26); target, window remaining and retries used,
for which R26 gives no value, are 0 (assumption log 37). -/
def Supervision.cold : Supervision :=
  { moving := false, target := 0, window := 0, retries := 0, preGrant := none, command := 0, retry := .none,
    tolerance := 0, retryLimit := 0 }

/-- Load memory absent (R14). -/
def LoadMemory.cold : LoadMemory := { influent := none, ras := none, previous := none }

/-- Cold lane record (R26, R44). -/
def Lane.cold : Lane :=
  { config := none, curve := [], faultConfig := .cold, mode := .unconfigured, timer := none, periodNumber := 0,
    setpoint := 0, cascaded := 0, previousError := 0, bumpless := false, demand := 0, lastValveGrant := 0,
    manualAir := 0, correction := 0, valveCommand := 0, load := .cold, sup := .cold, stalled := false,
    mismatchRun := 0, woken := false, cause := none, record := none, sticky := 0, openLoopSticky := false,
    gateOpen := false, airPriority := 0, correctionLimit := 0 }

/-- Cold allocator (R66, section 3.7). -/
def Air.cold : Air :=
  { capacity := [], grants := Vector.replicate 12 0, holdMarks := Vector.replicate 12 false, queue := [],
    freeze := .none, short := false, lastTimeout := none, shortfall := none, surplus := none,
    params := { starvationLimit := 900, stageInDelay := 180, stageOutDelay := 900, stageOutMargin := 500,
                loadFreeze := 60, minOnline := 1 } }

/-- Surge guard IDLE with count 0. -/
def Guard.cold : Guard := { phase := .idle, lowFlow := 0, remaining := 0, threshold := 0 }

/-- Cold blower record (R95). -/
def Blower.cold : Blower :=
  { config := none, state := .unconfigured, stepTimer := none, power := .none, foundRunning := 0, surge := .cold,
    blind := false, result := none }

/-- Cold header controller (R95). -/
def Header.cold : Header :=
  { config := none, setpoint := 0, commonSpeed := 0, previousError := none, range := none, lastMov := none,
    timer := none, movTimer := none }

/-- Cold power budget (R109). -/
def Budget.cold : Budget :=
  { ceiling := none, hard := false, shedDelay := 120, shedding := false, commits := [], waits := [], shedTimer := none }

/-- Cold train record (R129). -/
def Train.cold : Train :=
  { config := none, state := .unconfigured, stepTimer := none, power := .none, withdrawn := false, speed := 0,
    increaseTarget := none, increaseWait := 0, foundRunning := 0, rasSetpoint := none, blanketRun := 0, boost := false,
    timer := none, minSpeed := 0, limitedDelay := 0, startSpeed := 0 }

/-- Cold plant record (R129). -/
def Plant.cold : Plant :=
  { config := none, storm := false, force := .auto, runCount := 0, timer := none, pumpCap := false }

/-- Cold alarm entry (R151). -/
def Entry.cold : Entry :=
  { priority := 0, onDelay := 0, offDelay := 0, state := .disabled, condition := false, onTimer := none,
    clearTimer := none, shelf := none, stamp := 0, raises := 0, stage := 0, escTimer := none }

/-- Cold alarm unit (R151): the four HUB_ABSENT conditions are TRUE and every suppression flag is SET. -/
def AlarmUnit.cold : AlarmUnit :=
  { entries := ((((Vector.replicate 104 Entry.cold).set 96 { Entry.cold with condition := true }).set 97
      { Entry.cold with condition := true }).set 98 { Entry.cold with condition := true }).set 99
      { Entry.cold with condition := true },
    laneFlags := Vector.replicate 12 true, blowerFlags := Vector.replicate 6 true,
    trainFlags := Vector.replicate 4 true, history := [], wrapped := false, silenced := none, escTime := 900,
    escThreshold := 0, horn := false, beacon := .off, beaconFrames := 0, dialOut := false }

/-- Cold capture channel (R159). -/
def Channel.cold : Channel :=
  { configured := false,
    fields := { point := 0, interval := 0, preCount := 0, hostTrigger := 0, stormTrigger := 0, matchEntry := 0,
                matchMask := 0 },
    state := .idle, ring := [], intervalCount := 0, trigger := none, postRemaining := 0, missed := false }

/-- The baud rate each strap setting gives (section 11.2). -/
def Baud.ofStraps : Bool → Bool → Baud
  | false, false => .b19200
  | false, true => .b38400
  | true, false => .b115200
  | true, true => .b230400

/-- The state at the end of a cold reset with these straps (R189): every block at its cold values, the notice queue
holding the one COLD_RESET record, ATTN asserted. -/
def State.cold (strap1 strap0 : Bool) : State :=
  { pending := [], held := false, restarting := false, baud := Baud.ofStraps strap1 strap0, rx := [], reply := none,
    notices := [{ source := .host, causes := 1#8, posted := 0 }], attn := true, frameCount := 0, uptime := 0,
    outbound := none, hubs := Vector.replicate 4 Hub.cold, service := .cold, points := Vector.replicate 96 Point.cold,
    slots := Vector.replicate 48 Slot.cold, lanes := Vector.replicate 12 Lane.cold, air := .cold,
    blowers := Vector.replicate 6 Blower.cold, duty := [], online := [], header := .cold, budget := .cold,
    trains := Vector.replicate 4 Train.cold, plant := .cold, alarm := .cold, channels := Vector.replicate 4 Channel.cold }

/-- The part right after power-on completes, both baud straps reading 0 (DESIGN CHOICE: assumption log 1): no command
is waiting. -/
def State.reset : State := State.cold false false

end Sys2Proof.Machine
end

