-- ==== Sys2Proof/Machine/Ops.lean ====
section
/-! DEFINITION. Named operations on the records, shared by every block: arithmetic, accessors, slots, notices, capture
triggers. -/

namespace Sys2Proof.Machine

/-! ### Arithmetic (00_scope.md, Arithmetic) -/

/-- num / den rounded once to the nearest unit, halves away from zero. -/
def roundDiv (num : Int) (den : Nat) : Int :=
  if 0 ≤ num then ((2 * num.toNat + den) / (2 * den) : Nat)
  else -(((2 * (-num).toNat + den) / (2 * den) : Nat) : Int)

/-- `z` limited to `lo` through `hi`. -/
def clampInt (lo hi z : Int) : Int := max lo (min hi z)

/-- `z` limited to `lo` through `hi`, as a natural number. -/
def clampNat (lo hi : Nat) (z : Int) : Nat := max lo (min hi z.toNat)

end Sys2Proof.Machine

namespace Sys2Proof
open Machine

/-- num / den in lowest terms. -/
def Exact.reduce (num : Int) (den : Nat) : Exact :=
  let g := Nat.gcd num.natAbs den
  if g = 0 then ⟨0, 1⟩ else ⟨num / (g : Int), den / g⟩

/-- The exact value rounded to the nearest unit. -/
def Exact.round (x : Exact) : Int := roundDiv x.num x.den

end Sys2Proof

namespace Sys2Proof.Machine

/-- The smallest number not below a / 1000 (R102: rounded up to the next whole kW). -/
def ceilThousandth (a : Nat) : Nat := (a + 999) / 1000

/-- The whole distance between two integers. -/
def distance (a b : Int) : Nat := (a - b).natAbs

/-- One more, held at `top`. -/
def heldAdd (top n : Nat) : Nat := if n < top then n + 1 else top

/-! ### Lists of objects, in number order -/

def allLanes : List LaneId := List.finRange 12
def allBlowers : List BlowerId := List.finRange 6
def allTrains : List TrainId := List.finRange 4
def allHubs : List HubId := List.finRange 4
def allChannels : List ChannelId := List.finRange 4
def allPoints : List PointId := List.finRange 96
def allSlots : List SlotId := List.finRange 48
def allEntries : List AlarmId := List.finRange 104

/-- Work `f` over objects in order, each on the state the one before left. -/
def forAll {α : Type} (xs : List α) (f : α → State → State) (s : State) : State :=
  xs.foldl (fun s x => f x s) s

/-- The number as an object of a family of n, if it names one. -/
def asId (n k : Nat) : Option (Fin n) := if h : k < n then some ⟨k, h⟩ else none

/-- Insert by an ordering: before the first element that `x` does not follow. -/
def insertBy {α : Type} (before : α → α → Bool) (x : α) : List α → List α
  | [] => [x]
  | y :: ys => if before x y then x :: y :: ys else y :: insertBy before x ys

/-- Sort by an ordering. -/
def sortBy {α : Type} (before : α → α → Bool) : List α → List α
  | [] => []
  | x :: xs => insertBy before x (sortBy before xs)

/-! ### Records -/

def State.lane (s : State) (l : LaneId) : Lane := s.lanes[l]
def State.setLane (s : State) (l : LaneId) (r : Lane) : State := { s with lanes := s.lanes.set l r }
def State.blower (s : State) (b : BlowerId) : Blower := s.blowers[b]
def State.setBlower (s : State) (b : BlowerId) (r : Blower) : State := { s with blowers := s.blowers.set b r }
def State.train (s : State) (t : TrainId) : Train := s.trains[t]
def State.setTrain (s : State) (t : TrainId) (r : Train) : State := { s with trains := s.trains.set t r }
def State.hub (s : State) (h : HubId) : Hub := s.hubs[h]
def State.setHub (s : State) (h : HubId) (r : Hub) : State := { s with hubs := s.hubs.set h r }
def State.point (s : State) (p : PointId) : Point := s.points[p]
def State.setPoint (s : State) (p : PointId) (r : Point) : State := { s with points := s.points.set p r }
def State.slot (s : State) (q : SlotId) : Slot := s.slots[q]
def State.setSlot (s : State) (q : SlotId) (r : Slot) : State := { s with slots := s.slots.set q r }
def State.channel (s : State) (c : ChannelId) : Channel := s.channels[c]
def State.setChannel (s : State) (c : ChannelId) (r : Channel) : State := { s with channels := s.channels.set c r }
def State.entry (s : State) (e : AlarmId) : Entry := s.alarm.entries[e]
def State.setEntry (s : State) (e : AlarmId) (r : Entry) : State :=
  { s with alarm := { s.alarm with entries := s.alarm.entries.set e r } }
def State.grant (s : State) (l : LaneId) : Nat := s.air.grants[l]

/-- The point a record names by number; a record's numbers are in range (R1, R68, R111), and a number out of range
would read as an unbound point. -/
def State.pointAt (s : State) (p : Nat) : Point :=
  match asId 96 p with
  | some i => s.point i
  | none => Point.cold

/-- The point as a GOOD value, if it is GOOD. -/
def State.goodValue (s : State) (p : Nat) : Option Int :=
  let r := s.pointAt p
  if r.quality = .good then some r.value else none

/-- The hub a point is an input slot of (section 9.5: point p is input slot p mod 24 of hub p div 24). -/
def hubOfPoint (p : PointId) : HubId := ⟨p.val / 24, by omega⟩

/-- The hub an output slot belongs to (section 9.7). -/
def hubOfSlot (q : SlotId) : HubId := ⟨q.val / 12, by omega⟩

/-- Is the point a record names an input slot of this hub? -/
def onHub (h : HubId) (p : Nat) : Bool := p / 24 == h.val

/-! ### Output slots (R174) -/

/-- The slot a record names by number, if it names one, changed by `f`. -/
def State.updateSlot (s : State) (q : Nat) (f : Slot → Slot) : State :=
  match asId 48 q with
  | some i => s.setSlot i (f (s.slot i))
  | none => s

/-- The claimant writes value and validity together. -/
def State.writeSlot (s : State) (q value : Nat) (valid : Bool) : State :=
  s.updateSlot q (fun r => { r with value := value, valid := valid })

/-- Made not valid; the old value stands (assumption log 34). -/
def State.invalidateSlot (s : State) (q : Nat) : State := s.updateSlot q (fun r => { r with valid := false })

/-- A slot released: unclaimed, value 0, not valid. -/
def State.releaseSlot (s : State) (q : Nat) : State := s.updateSlot q (fun _ => Slot.cold)

/-- A slot claimed by an object in a role. -/
def State.claimSlot (s : State) (q : Nat) (c : Claimant) : State :=
  s.updateSlot q (fun r => { r with claimant := c })

/-- May this object claim the slot in this role: unclaimed, or already claimed by it in the role? -/
def State.slotFree (s : State) (q : Nat) (c : Claimant) : Bool :=
  match asId 48 q with
  | some i => (s.slot i).claimant == .none || (s.slot i).claimant == c
  | none => false

/-! ### Notices (R186) -/

/-- The causes of section 10.3. -/
inductive Cause where
  | faultTaken | holdEntered | stall | cut | woken
  | stateChanged | startFailed
  | pumpChanged
  | short | grantTimeout
  | shedStart | shedEnd
  | raised | escalated | historyWrapped
  | hubChanged | hubRequest | serviceDone
  | frozen
  | coldReset | warmRestart
  deriving DecidableEq, Repr

/-- The bit of a cause in its source's mask (section 11.3). -/
def Cause.mask : Cause → Byte
  | .faultTaken => 1#8 | .holdEntered => 2#8 | .stall => 4#8 | .cut => 8#8 | .woken => 16#8
  | .stateChanged => 1#8 | .startFailed => 2#8
  | .pumpChanged => 1#8
  | .short => 1#8 | .grantTimeout => 2#8
  | .shedStart => 1#8 | .shedEnd => 2#8
  | .raised => 1#8 | .escalated => 2#8 | .historyWrapped => 4#8
  | .hubChanged => 1#8 | .hubRequest => 2#8 | .serviceDone => 4#8
  | .frozen => 1#8
  | .coldReset => 1#8 | .warmRestart => 2#8

/-- The queue after a posting of one cause: merged into the source's record, or a new record at the end (R186). -/
def postTo (src : Source) (mask : Byte) (now : Nat) : List Notice → List Notice
  | [] => [{ source := src, causes := mask, posted := now }]
  | n :: ns =>
    if n.source = src then { n with causes := n.causes ||| mask } :: ns
    else n :: postTo src mask now ns

/-- Post a notice cause under a source. -/
def State.notify (s : State) (src : Source) (c : Cause) : State :=
  { s with notices := postTo src c.mask s.uptime s.notices }

/-! ### Capture triggers (R155) -/

/-- What a trigger does at one channel that it concerns, by the channel's state. -/
def Channel.triggered (c : Channel) (src : TriggerSource) (now : Nat) : Channel :=
  match c.state with
  | .idle => c
  | .primed =>
    { c with state := .triggered, trigger := some ⟨src, now, c.ring.length⟩,
             postRemaining := 256 - c.fields.preCount }
  | .triggered => c
  | .frozen => { c with missed := true }

/-- Does a raise of entry e match the channel's alarm match? -/
def Channel.matchesEntry (c : Channel) (e : AlarmId) : Bool :=
  c.fields.matchMask != 0 && (e.val &&& c.fields.matchMask) == (c.fields.matchEntry &&& c.fields.matchMask)

/-- Present a trigger to every channel that it concerns. -/
def State.presentTrigger (s : State) (src : TriggerSource) (concerns : Channel → Bool) : State :=
  { s with channels := s.channels.map (fun c => if concerns c then c.triggered src s.uptime else c) }

end Sys2Proof.Machine
end

