-- ==== Sys2Proof/Machine/Flags.lean ====
section
/-! DEFINITION. The alarm unit's operations: conditions and entries, suppression flags, history, and the lines that are
driven from the records (ATTN, horn, beacon, dial-out). -/

namespace Sys2Proof.Machine

/-! ### Entry numbers (section 7.1) -/

/-- Lane entries, 5l + offset: 0 LOW_DO, 1 HIGH_DO, 2 TRIM_FAULT, 3 VALVE_STALL, 4 STARVED. -/
def laneEntry (l : LaneId) (k : Fin 5) : AlarmId := ⟨5 * l.val + k.val, by omega⟩
/-- Blower entries, 60 + 4b + offset: 0 START_FAILED, 1 TRIP, 2 SURGE, 3 START_DEFERRED. -/
def blowerEntry (b : BlowerId) (k : Fin 4) : AlarmId := ⟨60 + 4 * b.val + k.val, by omega⟩
/-- Train entries, 84 + 3t + offset: 0 RAS_TRIP, 1 BLANKET_HIGH, 2 RAS_LIMITED. -/
def trainEntry (t : TrainId) (k : Fin 3) : AlarmId := ⟨84 + 3 * t.val + k.val, by omega⟩
/-- HUB_ABSENT entries, 96 + h. -/
def hubEntry (h : HubId) : AlarmId := ⟨96 + h.val, by omega⟩
def airShortEntry : AlarmId := 100
def sheddingEntry : AlarmId := 101
def headerLowEntry : AlarmId := 102
def stormEntryNo : AlarmId := 103

def lowDo (l : LaneId) : AlarmId := laneEntry l 0
def highDo (l : LaneId) : AlarmId := laneEntry l 1
def trimFault (l : LaneId) : AlarmId := laneEntry l 2
def valveStall (l : LaneId) : AlarmId := laneEntry l 3
def starvedEntry (l : LaneId) : AlarmId := laneEntry l 4
def startFailedEntry (b : BlowerId) : AlarmId := blowerEntry b 0
def tripEntry (b : BlowerId) : AlarmId := blowerEntry b 1
def surgeEntry (b : BlowerId) : AlarmId := blowerEntry b 2
def startDeferredEntry (b : BlowerId) : AlarmId := blowerEntry b 3
def rasTripEntry (t : TrainId) : AlarmId := trainEntry t 0
def blanketHighEntry (t : TrainId) : AlarmId := trainEntry t 1
def rasLimitedEntry (t : TrainId) : AlarmId := trainEntry t 2

/-! ### History (R147) -/

/-- Append a history record of a transition, with the entry's stage after it. -/
def State.record (s : State) (e : AlarmId) (tr : Transition) : State :=
  let r : HistoryRecord := ⟨e, tr, (s.entry e).stage, s.uptime⟩
  if s.alarm.history.length < 128 then
    { s with alarm := { s.alarm with history := s.alarm.history ++ [r] } }
  else
    let s' := { s with alarm := { s.alarm with history := s.alarm.history.tail ++ [r], wrapped := true } }
    if s.alarm.wrapped then s' else s'.notify .alarm .historyWrapped

/-! ### Raising and returning (R135 to R137) -/

/-- Does an entry of this priority escalate under this threshold (R145)? A threshold of 0 escalates nothing. -/
def escalates (threshold priority : Nat) : Bool := threshold != 0 && decide (priority ≤ threshold)

/-- The escalation timer a raise leaves (R135 step 6). -/
def raiseTimer (u : AlarmUnit) (r : Entry) : Option Nat :=
  if escalates u.escThreshold r.priority && decide (r.stage < 2) then some u.escTime else r.escTimer

/-- A raise (R135). From CLEARED_UNACK the entry keeps its first-raise stamp and with it its place (R137). -/
def State.raise (s : State) (e : AlarmId) : State :=
  let r := s.entry e
  let stamp := if r.state = .clearedUnack then r.stamp else s.uptime
  let s := s.setEntry e { r with state := .activeUnack, onTimer := none, shelf := none, stamp := stamp,
                                 raises := heldAdd 255 r.raises, escTimer := raiseTimer s.alarm r }
  let s := (s.record e .raised).notify .alarm .raised
  s.presentTrigger (.alarm e) (·.matchesEntry e)

/-- The clearing timer ends, or a return with off-delay 0 (R136). -/
def State.clearingEnds (s : State) (e : AlarmId) : State :=
  let r := s.entry e
  match r.state with
  | .activeUnack =>
    (s.setEntry e { r with state := .clearedUnack, clearTimer := none, escTimer := none }).record e .returned
  | .activeAck => (s.setEntry e { r with state := .normal, clearTimer := none }).record e .returned
  | _ => s

/-- An entry in NORMAL acts on a TRUE condition (R134). -/
def State.startOnDelay (s : State) (e : AlarmId) : State :=
  let r := s.entry e
  if r.onDelay = 0 then s.raise e else s.setEntry e { r with state := .onDelay, onTimer := some r.onDelay }

/-- The entry acts on a condition that has just changed and been stored (section 7.3). -/
def State.actOn (s : State) (e : AlarmId) : State :=
  let r := s.entry e
  match r.state, r.condition with
  | .normal, true => s.startOnDelay e
  | .onDelay, false => s.setEntry e { r with state := .normal, onTimer := none }
  | .activeUnack, true => s.setEntry e { r with clearTimer := none }
  | .activeAck, true => s.setEntry e { r with clearTimer := none }
  | .activeUnack, false =>
    if r.offDelay = 0 then s.clearingEnds e else s.setEntry e { r with clearTimer := some r.offDelay }
  | .activeAck, false =>
    if r.offDelay = 0 then s.clearingEnds e else s.setEntry e { r with clearTimer := some r.offDelay }
  | .clearedUnack, true => s.raise e
  | _, _ => s

/-- An owner posts a condition to its entry (R131): an equal value changes nothing, a value that differs is stored in
every state of the entry and then acted on. -/
def State.post (s : State) (e : AlarmId) (v : Bool) : State :=
  let r := s.entry e
  if r.condition = v then s else (s.setEntry e { r with condition := v }).actOn e

/-! ### Suppression (R133, R141) -/

/-- The entry enters SUPPRESSED unless DISABLED: its timers, shelf and escalation go, with no record and no notice. -/
def Entry.suppress (r : Entry) : Entry :=
  if r.state = .disabled then r
  else { r with state := .suppressed, onTimer := none, clearTimer := none, shelf := none, stage := 0, escTimer := none }

/-- The entry leaves SUPPRESSED for NORMAL and acts on its stored condition. -/
def State.unsuppress (s : State) (e : AlarmId) : State :=
  let r := s.entry e
  if r.state = .suppressed then
    let s := s.setEntry e { r with state := .normal }
    if r.condition then s.startOnDelay e else s
  else s

/-- Each entry of an object after its flag changed (R141), in entry-number order (assumption log 33). -/
def State.flagEntries (s : State) (es : List AlarmId) (v : Bool) : State :=
  forAll es (fun e s => if v then s.setEntry e (s.entry e).suppress else s.unsuppress e) s

def laneEntries (l : LaneId) : List AlarmId := (List.finRange 5).map (laneEntry l)
def blowerEntries (b : BlowerId) : List AlarmId := (List.finRange 4).map (blowerEntry b)
def trainEntries (t : TrainId) : List AlarmId := (List.finRange 3).map (trainEntry t)

/-- A lane signals that it enters (true) or leaves a suppressing state; a flag that stands changes nothing. -/
def State.suppressLane (s : State) (l : LaneId) (v : Bool) : State :=
  if s.alarm.laneFlags[l] = v then s
  else State.flagEntries { s with alarm := { s.alarm with laneFlags := s.alarm.laneFlags.set l v } } (laneEntries l) v

/-- A blower signals its suppressing state. -/
def State.suppressBlower (s : State) (b : BlowerId) (v : Bool) : State :=
  if s.alarm.blowerFlags[b] = v then s
  else State.flagEntries { s with alarm := { s.alarm with blowerFlags := s.alarm.blowerFlags.set b v } }
    (blowerEntries b) v

/-- A train signals its pump's suppressing state. -/
def State.suppressTrain (s : State) (t : TrainId) (v : Bool) : State :=
  if s.alarm.trainFlags[t] = v then s
  else State.flagEntries { s with alarm := { s.alarm with trainFlags := s.alarm.trainFlags.set t v } }
    (trainEntries t) v

/-- The object whose suppression flag holds the entry, and the flag (section 7.2: hub and plant entries have none). -/
def AlarmUnit.flagOf (u : AlarmUnit) (e : AlarmId) : Bool :=
  if h : e.val < 60 then u.laneFlags[e.val / 5]
  else if h2 : e.val < 84 then u.blowerFlags[(e.val - 60) / 4]
  else if h3 : e.val < 96 then u.trainFlags[(e.val - 84) / 3]
  else false

/-! ### Acknowledging, shelving, escalating -/

/-- Acknowledge one entry (R138); none where the state refuses. -/
def State.acknowledge (s : State) (e : AlarmId) : Option State :=
  let r := s.entry e
  match r.state with
  | .activeUnack => some ((s.setEntry e { r with state := .activeAck, stage := 0, escTimer := none }).record e .acked)
  | .clearedUnack => some ((s.setEntry e { r with state := .normal, stage := 0, escTimer := none }).record e .acked)
  | _ => none

/-- Shelve an entry for a time (R139); the entry's state has been checked. -/
def State.shelve (s : State) (e : AlarmId) (time : Nat) : State :=
  let r := s.entry e
  (s.setEntry e { r with state := .shelved, shelf := some time, onTimer := none, clearTimer := none, stage := 0,
                         escTimer := none }).record e .shelved

/-- The end of a shelf (R140): UNSHELVED is recorded, then the entry acts on its stored condition. -/
def State.unshelve (s : State) (e : AlarmId) : State :=
  let s := s.record e .unshelved
  let r := s.entry e
  if r.condition then s.raise e else s.setEntry e { r with state := .normal, shelf := none }

/-- The escalation timer ends (R145). -/
def State.escalate (s : State) (e : AlarmId) : State :=
  let r := s.entry e
  let stage := heldAdd 2 r.stage
  let timer := if r.stage = 0 then some s.alarm.escTime else none
  ((s.setEntry e { r with stage := stage, escTimer := timer }).record e .escalated).notify .alarm .escalated

/-- The escalation timer of an ACTIVE_UNACK entry re-tested against the threshold (R145, R146). -/
def Entry.retest (u : AlarmUnit) (r : Entry) : Entry :=
  if r.state = .activeUnack then
    if escalates u.escThreshold r.priority then
      if r.escTimer = none ∧ r.stage < 2 then { r with escTimer := some u.escTime } else r
    else { r with escTimer := none }
  else r

/-! ### The active list (R142) -/

/-- The states in the active list. -/
def EntryState.active : EntryState → Bool
  | .activeUnack => true
  | .activeAck => true
  | .clearedUnack => true
  | _ => false

/-- Does entry x stand before entry y: by priority, then first-raise stamp, then entry number? -/
def AlarmUnit.before (u : AlarmUnit) (x y : AlarmId) : Bool :=
  let a := u.entries[x]
  let b := u.entries[y]
  decide (a.priority < b.priority) ||
  (a.priority == b.priority && (decide (a.stamp < b.stamp) || (a.stamp == b.stamp && decide (x ≤ y))))

/-- The active list: exactly the entries in ACTIVE_UNACK, ACTIVE_ACK or CLEARED_UNACK, in order. -/
def AlarmUnit.activeList (u : AlarmUnit) : List AlarmId :=
  sortBy u.before (allEntries.filter (fun e => u.entries[e].state.active))

/-! ### Lines driven from the records (R143 to R145, R186) -/

/-- Some entry stands so. -/
def AlarmUnit.anyEntry (u : AlarmUnit) (p : Entry → Bool) : Bool := u.entries.toList.any p

/-- The horn: some ACTIVE_UNACK entry is more urgent than the silenced level (R143). -/
def AlarmUnit.hornDue (u : AlarmUnit) (level : Option Nat) : Bool :=
  u.anyEntry (fun r => r.state == .activeUnack && match level with
    | none => true
    | some n => decide (r.priority < n))

/-- The beacon (R144). -/
def AlarmUnit.beaconDue (u : AlarmUnit) : Beacon :=
  if u.anyEntry (fun r => r.stage == 1 || r.stage == 2) then .flashing
  else if u.anyEntry (fun r => r.state == .activeUnack || r.state == .clearedUnack) then .steady
  else .off

/-- The silenced level after an event: NONE when it leaves no entry in ACTIVE_UNACK (R143). -/
def AlarmUnit.levelDue (u : AlarmUnit) : Option Nat :=
  if u.anyEntry (fun r => r.state == .activeUnack) then u.silenced else none

/-- The alarm lines and the silenced level re-evaluated (section 7.5). -/
def AlarmUnit.refresh (u : AlarmUnit) : AlarmUnit :=
  let level := u.levelDue
  let beacon := u.beaconDue
  { u with silenced := level, horn := u.hornDue level, beacon := beacon,
           beaconFrames := if beacon = .flashing then (if u.beacon = .flashing then u.beaconFrames else 0) else 0,
           dialOut := u.anyEntry (fun r => r.stage == 2) }

/-- The lines as every event leaves them: ATTN asserted exactly while the notice queue is not empty (R186), the alarm
lines driven from the catalogue. -/
def State.refresh (s : State) : State :=
  { s with attn := !s.notices.isEmpty, alarm := s.alarm.refresh }

/-- Whether the beacon pin is on: steadily, or 25 frames on and 25 off from the event that made it FLASHING (R144). -/
def AlarmUnit.beaconLit (u : AlarmUnit) : Bool :=
  match u.beacon with
  | .off => false
  | .steady => true
  | .flashing => decide (u.beaconFrames < 25)

end Sys2Proof.Machine
end

