-- ==== Sys2Proof/Machine/Operands.lean ====
section
/-! DEFINITION. Every operand form: the widths and layouts of fields on the wire (R191), the codes of section 11.4, the
ranges of every configuration, the field frames, and how a request is taken or refused (R185). -/

namespace Sys2Proof.Machine

/-! ### Fields on the wire (R191: least significant byte first, two's complement) -/

/-- The n low bytes of a number, least significant first. -/
def bytesLE : Nat → Nat → List Byte
  | 0, _ => []
  | n + 1, v => BitVec.ofNat 8 v :: bytesLE n (v / 256)

/-- A field's width in bytes. -/
def WireField.size : WireField → Nat
  | .u8 _ => 1 | .u16 _ => 2 | .u24 _ => 3 | .u32 _ => 4 | .i16 _ => 2 | .i32 _ => 4

/-- An unsigned number at a width; what is sent for a larger one is not stated (assumption log 20). -/
def fitUnsigned (width n : Nat) : List Byte :=
  bytesLE width (if n < 256 ^ width then n else Config.fieldPastWidth width n)

/-- A signed number at a width, in two's complement. -/
def fitSigned (width : Nat) (z : Int) : List Byte :=
  bytesLE width (if -(256 ^ width : Int) ≤ 2 * z ∧ 2 * z < 256 ^ width then (z % 256 ^ width).toNat
    else Config.fieldPastWidth width z)

/-- A field's bytes. -/
def WireField.bytes : WireField → List Byte
  | .u8 n => fitUnsigned 1 n
  | .u16 n => fitUnsigned 2 n
  | .u24 n => fitUnsigned 3 n
  | .u32 n => fitUnsigned 4 n
  | .i16 z => fitSigned 2 z
  | .i32 z => fitSigned 4 z

/-- The bytes of a body. -/
def bodyBytes (fs : List WireField) : List Byte := fs.flatMap WireField.bytes

/-- The width of a body. -/
def bodySize (fs : List WireField) : Nat := (fs.map WireField.size).sum

/-- Optional unsigned fields, all ones when absent. -/
def optU8 (o : Option Nat) : WireField := .u8 (o.getD 0xFF)
def optU16 (o : Option Nat) : WireField := .u16 (o.getD 0xFFFF)
def optU32 (o : Option Nat) : WireField := .u32 (o.getD 0xFFFFFFFF)
/-- Optional signed four-byte field, the most negative value when absent. -/
def optI32 (o : Option Int) : WireField := .i32 (o.getD (-2147483648))
def flag (b : Bool) : WireField := .u8 (if b then 1 else 0)
def optFin {n : Nat} (o : Option (Fin n)) : WireField := optU8 (o.map (·.val))
/-- A field that is absent, at the width of the field that would stand there. -/
def WireField.absent : WireField → WireField
  | .u8 _ => .u8 0xFF | .u16 _ => .u16 0xFFFF | .u24 _ => .u24 0xFFFFFF | .u32 _ => .u32 0xFFFFFFFF
  | .i16 _ => .i16 (-32768) | .i32 _ => .i32 (-2147483648)
/-- A list of varying length: a count byte followed by its items. -/
def wireList (xs : List (List WireField)) : List WireField := .u8 xs.length :: xs.flatten

/-! ### Checks on frames -/

/-- One byte into the host link CRC-16: polynomial 0x1021, no reflection. -/
def crc16Byte (crc : BitVec 16) (b : Byte) : BitVec 16 :=
  (List.range 8).foldl (fun c _ => if c.msb then (c <<< 1) ^^^ 0x1021#16 else c <<< 1)
    (crc ^^^ (b.setWidth 16 <<< 8))

/-- The host link CRC-16 over length, kind and body bytes, initial value 0xFFFF. -/
def crc16 (bs : List Byte) : BitVec 16 := bs.foldl crc16Byte 0xFFFF#16

/-- One byte into the field link CRC-8: polynomial 0x07. -/
def crc8Byte (crc : Byte) (b : Byte) : Byte :=
  (List.range 8).foldl (fun c _ => if c.msb then (c <<< 1) ^^^ 0x07#8 else c <<< 1) (crc ^^^ b)

/-- The field link CRC-8 over every byte after the sync, initial value 0x00. -/
def crc8 (bs : List Byte) : Byte := bs.foldl crc8Byte 0#8

/-- A host link frame (section 11.2): start byte, length, kind, body, CRC-16 low byte first. -/
def hostFrame (kind : Nat) (body : List Byte) : List Byte :=
  let covered := BitVec.ofNat 8 (1 + body.length) :: BitVec.ofNat 8 kind :: body
  0x7E#8 :: covered ++ bytesLE 2 (crc16 covered).toNat

/-- A reply as it leaves the part. -/
def Reply.wire (r : Reply) : List Byte := hostFrame r.kind (bodyBytes r.body)

/-- Is it a length byte that discards its frame (R184)? -/
def badLength (len : Nat) : Bool := len == 0 || decide (250 < len)

/-- The bytes from the first start byte on: the receiver ignores what comes before it (R184). -/
def fromStart (bs : List Byte) : List Byte := bs.dropWhile (· != 0x7E#8)

/-- Do these bytes begin with a frame that the receiver discards for its length byte or its CRC-16 (R184)? -/
def discardable (bs : List Byte) : Bool :=
  match fromStart bs with
  | _ :: len :: rest =>
    badLength len.toNat ||
      (decide (len.toNat + 2 ≤ rest.length) &&
        (rest.drop len.toNat).take 2 != bytesLE 2 (crc16 (len :: rest.take len.toNat)).toNat)
  | _ => false

end Sys2Proof.Machine

namespace Sys2Proof
open Machine

/-- The return frame's bytes after the sync, less the frame check (section 11.6). -/
def ReturnFrame.covered (f : ReturnFrame) : List Byte :=
  f.hubId :: bytesLE 3 f.mask.toNat ++ f.samples.toList.flatMap (fun r => bytesLE 2 r.toNat) ++
    [f.requestCode, f.objectIndex, f.echo, f.status] ++ bytesLE 2 f.value.toNat

/-- Does the frame check pass? -/
def ReturnFrame.checkPasses (f : ReturnFrame) : Bool := f.crc == crc8 f.covered

end Sys2Proof

namespace Sys2Proof.Machine

/-- The outbound frame as sent (section 11.6), 113 bytes. -/
def Outbound.wire (o : Outbound) : List Byte :=
  let hubPart (h : HubId) : List Byte :=
    let slots := (List.finRange 12).map (fun k : Fin 12 => o.commands[12 * h.val + k.val]'(by omega))
    let mask := (slots.zipIdx.map (fun (c, k) => if c.isSome then 2 ^ k else 0)).sum
    bytesLE 2 (mask + if o.busy[h] then 2 ^ 15 else 0) ++ slots.flatMap (fun c => bytesLE 2 (c.getD 0))
  let service := match o.service with
    | some (h, code, address, value) =>
      BitVec.ofNat 8 (128 + h.val) :: BitVec.ofNat 8 code :: bytesLE 2 address ++ bytesLE 2 value
    | none => List.replicate 6 0#8
  let covered := allHubs.flatMap hubPart ++ service
  0xA5#8 :: 0x5A#8 :: covered ++ [crc8 covered]

/-! ### Codes (section 11.4) -/

def RunMode.code : RunMode → Nat
  | .auto => 4 | .manual => 5
def LaneMode.code : LaneMode → Nat
  | .unconfigured => 0 | .outOfService => 1 | .parked => 2 | .adopting _ => 3 | .auto => 4 | .manual => 5 | .hold _ => 6
def FaultKind.code : FaultKind → Nat
  | .absentInput => 1 | .range => 2 | .cascadeInput => 3 | .saturation => 4 | .flowUnusable => 5 | .flowMismatch => 6
/-- The kind's bit in a mask: bit n for the item with code n + 1 (R191). -/
def FaultKind.bit (k : FaultKind) : BitVec 6 := 1#6 <<< (k.code - 1)
def Substitution.code : Substitution → Nat
  | .holdLast => 0 | .lean => 1 | .rich => 2 | .fixed => 3
def Substitution.ofCode : Nat → Substitution
  | 0 => .holdLast | 1 => .lean | 2 => .rich | _ => .fixed
def BlowerState.code : BlowerState → Nat
  | .unconfigured => 0 | .adopting => 1 | .off => 2 | .starting _ _ _ => 3 | .online => 4 | .stopping _ => 5
  | .tripped => 6 | .failed => 7 | .lockedOut => 8
def BlowerState.stepCode : BlowerState → Nat
  | .starting .waitPower _ _ => 1 | .starting .blowoffOpen _ _ => 2 | .starting .motorStart _ _ => 3
  | .starting .ramp _ _ => 4 | .starting .loading _ _ => 5 | .starting .retryWait _ _ => 6
  | .stopping .unloading => 7 | .stopping .runDown => 8 | _ => 0
def FailureCause.code : FailureCause → Nat
  | .none => 0 | .noRunFeedback => 1 | .rampTimeout => 2 | .blowoffTimeout => 3 | .trippedInStart => 4 | .noStop => 5
def StartOutcome.code : StartOutcome → Nat
  | .inProgress => 0 | .online => 1 | .failed => 2 | .aborted => 3
def PumpState.code : PumpState → Nat
  | .unconfigured => 0 | .adopting => 1 | .off => 2 | .starting _ => 3 | .running => 4 | .tripped => 5 | .lockedOut => 6
def PumpState.stepCode : PumpState → Nat
  | .starting .waitPower => 1 | .starting .runConfirm => 2 | _ => 0
def CommitKind.code : CommitKind → Nat
  | .start => 0 | .run => 1 | .pump => 2
def EntryState.code : EntryState → Nat
  | .disabled => 0 | .normal => 1 | .onDelay => 2 | .activeUnack => 3 | .activeAck => 4 | .clearedUnack => 5
  | .shelved => 6 | .suppressed => 7
def Transition.code : Transition → Nat
  | .raised => 0 | .returned => 1 | .acked => 2 | .shelved => 3 | .unshelved => 4 | .escalated => 5
def PointKind.code : PointKind → Nat
  | .unused => 0 | .analog => 1 | .discrete => 2
def PointKind.ofCode : Nat → PointKind
  | 0 => .unused | 1 => .analog | _ => .discrete
def Quality.code : Quality → Nat
  | .good => 0 | .unbound => 1 | .absent => 2 | .maint => 3 | .stale => 4 | .overrange => 5 | .underrange => 6
def HubCode.code : HubCode → Nat
  | .localSelect => 1 | .probeService => 2 | .panelFault => 3
def HubCode.ofByte (b : Byte) : Option HubCode :=
  if b = 1#8 then some .localSelect else if b = 2#8 then some .probeService
  else if b = 3#8 then some .panelFault else none
def ServiceResult.code : ServiceResult → Nat
  | .ok => 0 | .refusedByHub => 1 | .noAnswer => 2 | .absent => 3 | .restarted => 4
/-- IDLE, SENT and DONE in the order section 9.9 lists them; section 11.4 gives no code (assumption log 14). -/
def ServiceState.code : ServiceState → Nat
  | .idle => 0 | .sent => 1 | .done _ _ => 2
def CaptureState.code : CaptureState → Nat
  | .idle => 0 | .primed => 1 | .triggered => 2 | .frozen => 3
def TriggerSource.wire : TriggerSource → List WireField
  | .host => [.u8 0, .u8 0xFF]
  | .storm => [.u8 1, .u8 0xFF]
  | .alarm e => [.u8 2, .u8 e.val]
def Claimant.wire : Claimant → List WireField
  | .none => [.u8 0, .u8 0xFF]
  | .laneValve l => [.u8 1, .u8 l.val]
  | .blowerRun b => [.u8 2, .u8 b.val]
  | .blowerSpeed b => [.u8 3, .u8 b.val]
  | .blowerBlowoff b => [.u8 4, .u8 b.val]
  | .pumpRun t => [.u8 5, .u8 t.val]
  | .pumpSpeed t => [.u8 6, .u8 t.val]
def BlowerPower.code : BlowerPower → Nat
  | .none => 0 | .waiting => 1 | .start => 2 | .run => 3
def PumpPower.code : PumpPower → Nat
  | .none => 0 | .waiting => 1 | .pump => 2
def Origin.code : Origin → Nat
  | .command => 0 | .staging => 1
def GuardPhase.code : GuardPhase → Nat
  | .idle => 0 | .holding => 1 | .watching => 2
def Beacon.code : Beacon → Nat
  | .off => 0 | .steady => 1 | .flashing => 2
def Force.code : Force → Nat
  | .auto => 0 | .storm => 1 | .normal => 2
def Force.ofCode : Nat → Force
  | 0 => .auto | 1 => .storm | _ => .normal
/-- Notice sources (section 11.3). -/
def Source.code : Source → Nat
  | .lane l => l.val | .blower b => 12 + b.val | .train t => 18 + t.val
  | .air => 22 | .budget => 23 | .alarm => 24 | .link => 25 | .capture => 26 | .host => 27
/-- Commitment holders, numbered as notice sources 12 to 21 (section 11.5). -/
def Holder.code : Holder → Nat
  | .blower b => 12 + b.val
  | .pump t => 18 + t.val
def Reason.code : Reason → Nat
  | .unknownKind => 1 | .badLength => 2 | .range => 3 | .state => 4 | .busy => 5 | .conflict => 6 | .unconfigured => 7
def Baud.rate : Baud → Nat
  | .b19200 => 19200 | .b38400 => 38400 | .b115200 => 115200 | .b230400 => 230400
/-- The freeze as two bytes: 0 NONE, 65535 INDEFINITE, otherwise seconds remaining. -/
def Freeze.wire : Freeze → WireField
  | .none => .u16 0 | .seconds n => .u16 n | .indefinite => .u16 65535

/-- The request kinds of section 11.2. -/
def requestKinds : List Nat :=
  [0x01, 0x02, 0x03, 0x04, 0x05, 0x06, 0x07, 0x10, 0x11, 0x12, 0x13, 0x14, 0x15, 0x16, 0x17, 0x18, 0x20, 0x21, 0x22,
   0x28, 0x29, 0x2A, 0x2B, 0x2C, 0x2D, 0x30, 0x31, 0x38, 0x39, 0x3A, 0x3B, 0x3C, 0x40, 0x41, 0x42, 0x43, 0x44, 0x45,
   0x46, 0x47, 0x50, 0x51, 0x52, 0x53, 0x54, 0x60, 0x61, 0x62, 0x63]

/-- A BLOWER_COMMAND or PUMP_COMMAND whose command code is none of the five (section 11.4). -/
def unknownCommand (kind : Nat) (body : List Byte) : Bool :=
  (kind == 0x29 || kind == 0x39) &&
    match body with
    | [_, code] => decide (4 < code.toNat)
    | _ => false

end Sys2Proof.Machine

namespace Sys2Proof
open Machine

/-! ### Body layouts of the configuration requests, in the order of their rules -/

def PointFields.wire (f : PointFields) : List WireField :=
  [.u8 f.kind, .i32 f.spanLow, .i32 f.spanHigh, .u8 f.filter, .u8 f.staleLimit]

def LaneFields.wire (f : LaneFields) : List WireField :=
  [optU8 f.train, .u8 f.doPoint, optU8 f.nh4Point, .u8 f.airflowPoint, optU8 f.feedbackPoint, .u8 f.valveSlot,
   .u16 f.minAir, .u16 f.maxAir] ++
  [.u8 f.airPriority, .u8 f.period, .u16 f.doSetpoint, .u16 f.stormSetpoint, .u16 f.doLow, .u16 f.doHigh, .u16 f.kp,
   .u16 f.ti, .u16 f.feedForward, .u8 f.cascadeEnable, .u16 f.nh4Setpoint, .u16 f.cascadeGain, .u16 f.spLow,
   .u16 f.spHigh, .u8 f.cascadeDivider] ++
  [.u16 f.flowGain, .u16 f.correctionLimit, .u16 f.releaseDeadband, .u8 f.mismatchTolerance, .u8 f.mismatchCount,
   .u8 f.stallWindow, .u8 f.retryLimit, .u8 f.valveDeadband, .u8 f.feedbackTolerance, .u8 f.wakeOnStorm,
   .u8 f.returnToPark, .u16 f.fallbackAir]

def curveWire (curve : List (Nat × Nat)) : List WireField :=
  wireList (curve.map (fun p => [.u16 p.1, .u16 p.2]))

def FaultFields.wire (f : FaultFields) : List WireField :=
  [.u8 f.enableMask, .u8 f.substitution, .u8 f.faultMode, .u8 f.fallback]

def AirFields.wire (f : AirFields) : List WireField :=
  [.u16 f.starvationLimit, .u16 f.stageInDelay, .u16 f.stageOutDelay, .u16 f.stageOutMargin, .u16 f.loadFreeze,
   .u8 f.minOnline]

def SeqFields.wire (f : SeqFields) : List WireField :=
  [.u16 f.startAllowance, .u16 f.minSpeed, .u16 f.maxSpeed, .u16 f.blowoffTime, .u8 f.runConfirm, .u16 f.rampTime,
   .u16 f.stopConfirm, .u16 f.retryDelay, .u8 f.attemptLimit, .u16 f.deferralLimit, .u8 f.surgeCount, .u16 f.surgeHold]

def BlowerFields.wire (f : BlowerFields) : List WireField :=
  [.u8 f.runPoint, .u8 f.flowPoint, optU8 f.blowoffPoint, .u8 f.runSlot, .u8 f.speedSlot, .u8 f.blowoffSlot,
   .u16 f.ratedCapacity, .u16 f.surgeMinFlow, .u16 f.runKw] ++ f.seq.wire

def dutyWire (duty : List Nat) : List WireField := wireList (duty.map (fun b => [.u8 b]))

def HeaderFields.wire (f : HeaderFields) : List WireField :=
  [.u8 f.pressurePoint, .u16 f.initialSetpoint, .u16 f.minSetpoint, .u16 f.maxSetpoint, .u16 f.movHigh, .u16 f.movLow,
   .u8 f.movStep, .u16 f.movPeriod, .u8 f.headerPeriod, .u16 f.speedKp, .u16 f.speedTi, .u16 f.headerLowLimit]

def TrainFields.wire (f : TrainFields) : List WireField :=
  [.u8 f.influentPoint, .u8 f.rasFlowPoint, optU8 f.blanketPoint, .u8 f.runPoint, .u8 f.runSlot, .u8 f.speedSlot,
   .u16 f.ratedKw] ++ wireList (f.lanes.map (fun l => [.u8 l])) ++
  [.u8 f.normalRatio, .u8 f.stormRatio, .u16 f.rasMin, .u16 f.rasMax, .u16 f.blanketHigh, .u16 f.blanketHysteresis,
   .u8 f.blanketBoost, .u16 f.pacingPeriod, .u16 f.speedGain, .u16 f.minSpeed, .u16 f.maxSpeed, .u8 f.runConfirm,
   .u16 f.limitedDelay]

def StormFields.wire (f : StormFields) : List WireField :=
  [.u8 f.influentPoint, .u16 f.stormIn, .u16 f.stormOut, .u8 f.inCount, .u8 f.outCount, .u16 f.evalPeriod]

def CaptureFields.wire (f : CaptureFields) : List WireField :=
  [.u8 f.point, .u16 f.interval, .u8 f.preCount, .u8 f.hostTrigger, .u8 f.stormTrigger, .u8 f.matchEntry,
   .u8 f.matchMask]

/-! ### Ranges -/

/-- Every triple (low, value, high) has its value within. -/
def within (xs : List (Nat × Nat × Nat)) : Bool := xs.all (fun (lo, v, hi) => decide (lo ≤ v) && decide (v ≤ hi))

/-- An optional number within a range when present. -/
def optWithin (hi : Nat) (o : Option Nat) : Bool := o.all (fun v => decide (v ≤ hi))

/-- The ranges and orderings of R1. -/
def LaneFields.inRange (f : LaneFields) : Bool :=
  optWithin 3 f.train && optWithin 95 f.nh4Point && optWithin 95 f.feedbackPoint &&
  within [(0, f.doPoint, 95), (0, f.airflowPoint, 95), (0, f.valveSlot, 47), (1, f.minAir, 20000),
    (f.minAir, f.maxAir, 20000), (0, f.airPriority, 3), (1, f.period, 120), (0, f.doSetpoint, 2000),
    (0, f.stormSetpoint, 2000), (0, f.doLow, 2000), (0, f.doHigh, 2000), (0, f.kp, 5000), (10, f.ti, 3600)] &&
  within [(0, f.feedForward, 1000), (0, f.cascadeEnable, 1), (0, f.nh4Setpoint, 10000), (0, f.cascadeGain, 1000),
    (0, f.spLow, 2000), (0, f.spHigh, 2000), (1, f.cascadeDivider, 60), (0, f.flowGain, 1000),
    (0, f.correctionLimit, 1000), (0, f.releaseDeadband, 5000), (1, f.mismatchTolerance, 100),
    (1, f.mismatchCount, 50), (0, f.stallWindow, 250)] &&
  within [(0, f.retryLimit, 15), (0, f.valveDeadband, 100), (1, f.feedbackTolerance, 100), (0, f.wakeOnStorm, 1),
    (0, f.returnToPark, 1), (f.minAir, f.fallbackAir, f.maxAir), (f.spLow, f.doSetpoint, f.spHigh)] &&
  decide (f.doLow < f.doHigh) && (f.cascadeEnable == 0 || f.nh4Point.isSome)

/-- Do two lane configurations agree in every structural field (section 1.1)? -/
def LaneFields.sameStructure (f g : LaneFields) : Bool :=
  f.train == g.train && f.doPoint == g.doPoint && f.nh4Point == g.nh4Point && f.airflowPoint == g.airflowPoint &&
  f.feedbackPoint == g.feedbackPoint && f.valveSlot == g.valveSlot && f.minAir == g.minAir && f.maxAir == g.maxAir

def LaneFields.cascadeOn (f : LaneFields) : Bool := f.cascadeEnable == 1
def LaneFields.wakes (f : LaneFields) : Bool := f.wakeOnStorm == 1
def LaneFields.reparks (f : LaneFields) : Bool := f.returnToPark == 1

/-- Strictly increasing openings and flows (R3). -/
def curveIncreasing : List (Nat × Nat) → Bool
  | p :: q :: rest => decide (p.1 < q.1) && decide (p.2 < q.2) && curveIncreasing (q :: rest)
  | _ => true

/-- The valve curve's ranges (R3). -/
def curveInRange (c : List (Nat × Nat)) : Bool :=
  within [(2, c.length, 8)] && c.all (fun p => decide (p.1 ≤ 1000) && decide (p.2 ≤ 65535)) && curveIncreasing c

/-- A kind outside the five that may be enabled, or an unknown mode value, is out of range (R28). -/
def FaultFields.inRange (f : FaultFields) : Bool :=
  within [(0, f.enableMask, 63), (0, f.substitution, 3), (0, f.faultMode, 1), (0, f.fallback, 1)] &&
  !f.enableMask.testBit 4

def AirFields.inRange (f : AirFields) : Bool :=
  within [(10, f.starvationLimit, 7200), (10, f.stageInDelay, 3600), (10, f.stageOutDelay, 7200),
    (0, f.stageOutMargin, 20000), (0, f.loadFreeze, 600), (1, f.minOnline, 6)]

def SeqFields.inRange (f : SeqFields) : Bool :=
  within [(0, f.startAllowance, 5000), (0, f.minSpeed, 1000), (f.minSpeed, f.maxSpeed, 1000), (1, f.blowoffTime, 600),
    (1, f.runConfirm, 120), (1, f.rampTime, 600), (1, f.stopConfirm, 600), (0, f.retryDelay, 3600),
    (1, f.attemptLimit, 5), (0, f.deferralLimit, 3600), (1, f.surgeCount, 250), (1, f.surgeHold, 600)]

/-- The ranges of R68: every field, min speed not above max speed, three different slots. -/
def BlowerFields.inRange (f : BlowerFields) : Bool :=
  optWithin 95 f.blowoffPoint && f.seq.inRange &&
  within [(0, f.runPoint, 95), (0, f.flowPoint, 95), (0, f.runSlot, 47), (0, f.speedSlot, 47), (0, f.blowoffSlot, 47),
    (100, f.ratedCapacity, 10000), (0, f.surgeMinFlow, 10000), (1, f.runKw, 5000)] &&
  f.runSlot != f.speedSlot && f.runSlot != f.blowoffSlot && f.speedSlot != f.blowoffSlot

def BlowerFields.sameStructure (f g : BlowerFields) : Bool := { f with seq := g.seq } == g

/-- The ranges and orderings of R89. -/
def HeaderFields.inRange (f : HeaderFields) : Bool :=
  within [(0, f.pressurePoint, 95), (100, f.minSetpoint, 2000), (f.minSetpoint, f.maxSetpoint, 2000),
    (f.minSetpoint, f.initialSetpoint, f.maxSetpoint), (0, f.movHigh, 1000), (0, f.movLow, 1000), (1, f.movStep, 100),
    (10, f.movPeriod, 3600), (1, f.headerPeriod, 60), (0, f.speedKp, 5000), (5, f.speedTi, 3600),
    (0, f.headerLowLimit, 2000)] && decide (f.movLow < f.movHigh)

/-- No number twice. -/
def distinct (xs : List Nat) : Bool := decide xs.Nodup

/-- The ranges of R111 that a TRAIN_SET decides by itself. -/
def TrainFields.inRange (f : TrainFields) : Bool :=
  optWithin 95 f.blanketPoint && distinct f.lanes && f.lanes.all (fun l => decide (l ≤ 11)) && f.runSlot != f.speedSlot &&
  within [(0, f.influentPoint, 95), (0, f.rasFlowPoint, 95), (0, f.runPoint, 95), (0, f.runSlot, 47),
    (0, f.speedSlot, 47), (1, f.ratedKw, 1000), (1, f.lanes.length, 4), (10, f.normalRatio, 200),
    (10, f.stormRatio, 200), (0, f.rasMin, 20000), (f.rasMin, f.rasMax, 20000), (0, f.blanketHigh, 1000)] &&
  within [(0, f.blanketHysteresis, 500), (0, f.blanketBoost, 100), (5, f.pacingPeriod, 300), (0, f.speedGain, 1000),
    (0, f.minSpeed, 1000), (f.minSpeed, f.maxSpeed, 1000), (1, f.runConfirm, 120), (0, f.limitedDelay, 3600)]

def TrainFields.sameStructure (f g : TrainFields) : Bool :=
  f.influentPoint == g.influentPoint && f.rasFlowPoint == g.rasFlowPoint && f.blanketPoint == g.blanketPoint &&
  f.runPoint == g.runPoint && f.runSlot == g.runSlot && f.speedSlot == g.speedSlot && f.ratedKw == g.ratedKw

/-- The ranges of R123. -/
def StormFields.inRange (f : StormFields) : Bool :=
  within [(0, f.influentPoint, 95), (1, f.stormIn, 65535), (0, f.stormOut, 65534), (1, f.inCount, 60),
    (1, f.outCount, 60), (10, f.evalPeriod, 600)] && decide (f.stormOut < f.stormIn)

/-- The ranges of section 8.1 (R153). -/
def CaptureFields.inRange (f : CaptureFields) : Bool :=
  within [(0, f.point, 95), (1, f.interval, 3000), (0, f.preCount, 255), (0, f.hostTrigger, 1), (0, f.stormTrigger, 1),
    (0, f.matchEntry, 127), (0, f.matchMask, 127)]

/-- The ranges of R171. -/
def PointFields.inRange (f : PointFields) : Bool :=
  within [(0, f.kind, 2), (0, f.filter, 250), (1, f.staleLimit, 250)] &&
  (f.kind != 1 || decide (f.spanLow < f.spanHigh)) &&
  decide (-2147483648 ≤ f.spanLow ∧ f.spanLow ≤ 2147483647 ∧ -2147483648 ≤ f.spanHigh ∧ f.spanHigh ≤ 2147483647)

end Sys2Proof

namespace Sys2Proof.Machine

/-- A point's value and quality as a read returns them; both absent where no point is bound. -/
def State.pointWire (s : State) (p : Option Nat) : List WireField :=
  [optI32 (p.map (fun n => (s.pointAt n).value)), optU8 (p.map (fun n => (s.pointAt n).quality.code))]

/-! ### Taking a request (R185) -/

/-- What the owner of a request answers: a refusal with its reason, or the state after the request and the reply's
body. -/
inductive Verdict where
  | refuse (r : Reason)
  | take (s : State) (body : List WireField)

/-- The refusal reply: kind 0xFF, the reason code, the refused kind (section 11.2). -/
def refusal (kind : Nat) (r : Reason) : Reply := { kind := 0xFF, body := [.u8 r.code, .u8 kind] }

/-- An event that turns the part's records from `s` into `t`: the lines follow the records, and the queue of waiting
commands is none of the part's doing. The lines and the silenced level are worked out once, at the event's end
(assumption log 34). -/
def finish (s t : State) : State := { t.refresh with pending := s.pending }

/-- An event at the part. While the RESET pin is held the part does nothing (R189). -/
def event (f : State → State) (s : State) : Host.Outcome State Fault Refusal :=
  if s.held then .next s else .next (finish s (f s))

/-- Is a request's frame received whole and answered: not while the RESET pin is held (R189), not between a RESTART and its
warm restart (R190: a frame that completes meanwhile is discarded, R184), and not as the rest of a frame begun before it
(R184)? -/
def State.listening (s : State) : Bool := !s.held && !s.restarting && s.rx.isEmpty

/-- A request: the kind, the length byte and the body of its frame, whether the kind allows that length (R185), and what
its owner answers. -/
structure Request where
  kind : Nat
  len : Nat
  body : List WireField
  fits : Bool
  owner : State → Verdict

/-- The state after a request's completion (R184, R185). Under the RESET pin nothing is received; a frame that completes
while RESTART's reply is sent is discarded. A complete request's length is checked first, then it goes to its owner; a
refused request changes no record, and either way one reply is sent and the receiver is empty. -/
def Request.after (r : Request) (s : State) : State :=
  if s.held then s
  else if s.restarting then { s with rx := [] }
  else if r.fits then
    match r.owner s with
    | .refuse why => { s with reply := some (refusal r.kind why), rx := [] }
    | .take t reply => finish s { t with reply := some { kind := r.kind + 0x80, body := reply }, rx := [] }
  else { s with reply := some (refusal r.kind .badLength), rx := [] }

/-- The bytes of a request's frame (section 11.2): the length byte gives the body's length, so that a body longer than its
fields is filled up with 0, and a shorter one cut off (assumption log 27). -/
def frameBytes (kind len : Nat) (body : List WireField) : List Byte :=
  let fields := bodyBytes body
  let covered := BitVec.ofNat 8 (min len 255) :: BitVec.ofNat 8 kind ::
    (if badLength len then fields else (fields ++ List.replicate len 0#8).take (len - 1))
  0x7E#8 :: covered ++ bytesLE 2 (crc16 covered).toNat

/-- The bytes of a request's frame. -/
def Request.bytes (r : Request) : List Byte := frameBytes r.kind r.len r.body

/-- The length a kind with this body requires: one for the kind byte plus the widths of its fields (R191). -/
def lengthFor (len : Nat) (body : List WireField) : Bool := len == 1 + bodySize body

/-- The length of a kind with a list: with the count in its range (low, count, high), the one its fields require; with
another count, one from the shortest to the longest list the kind allows, so that the owner refuses the count (R3, R185,
assumption log 8). -/
def listLengthFor (len : Nat) (body : List WireField) (count : Nat × Nat × Nat) (lengths : Nat × Nat) : Bool :=
  if within [count] then lengthFor len body else within [(lengths.1, len, lengths.2)]

/-- A request whose length is allowed on this condition. -/
def requestIf (kind len : Nat) (body : List WireField) (fits : Bool) (owner : State → Verdict) : Request :=
  { kind := kind, len := len, body := body, fits := fits, owner := owner }

/-- A request whose body has one length. -/
def request (kind len : Nat) (body : List WireField) (owner : State → Verdict) : Request :=
  requestIf kind len body (lengthFor len body) owner

/-- A request for one numbered object: a number that names none is refused RANGE. -/
def forObject (n k : Nat) (f : Fin n → Verdict) : Verdict :=
  match asId n k with
  | some i => f i
  | none => .refuse .range

end Sys2Proof.Machine
end

