-- ==== Sys2Proof/Machine/Valve.lean ====
section
/-! DEFINITION. The lane's valve: the inverse curve (R18), the writes of its slot, and the completion of an adoption (R7). -/

namespace Sys2Proof.Machine

/-- Is the lane in ADOPTING? -/
def LaneMode.isAdopting : LaneMode → Bool
  | .adopting _ => true
  | _ => false

/-- Is the lane in HOLD? -/
def LaneMode.isHold : LaneMode → Bool
  | .hold _ => true
  | _ => false

/-- Does the lane run periods (section 1.3)? -/
def LaneMode.runs : LaneMode → Bool
  | .auto => true
  | .manual => true
  | _ => false

/-- The modes in which the lane's alarm entries are SUPPRESSED (R133). -/
def LaneMode.suppressing : LaneMode → Bool
  | .unconfigured => true
  | .outOfService => true
  | .parked => true
  | _ => false

def RunMode.mode : RunMode → LaneMode
  | .auto => .auto
  | .manual => .manual

/-- The inverse curve of a flow as an exact fraction num / den in 0.1 % (R18): clamped to the curve's end points,
interpolated linearly between the two points whose flows bracket it. With no curve it is 0 (no lane without a curve
commands its valve by one: R4, R10). -/
def inverseCurve (flow : Nat) : List (Nat × Nat) → Int × Nat
  | [] => (0, 1)
  | [p] => (p.1, 1)
  | p :: q :: rest =>
    if flow ≤ p.2 then (p.1, 1)
    else if flow < q.2 then
      ((p.1 : Int) * ((q.2 : Int) - p.2) + ((q.1 : Int) - p.1) * ((flow : Int) - p.2), q.2 - p.2)
    else inverseCurve flow (q :: rest)

/-- The valve command: inverse curve plus correction, computed exactly, rounded once, clamped 0 to 1000 (R18). -/
def valveCommandFor (curve : List (Nat × Nat)) (flow : Nat) (correction : Int) : Nat :=
  let c := inverseCurve flow curve
  clampNat 0 1000 (roundDiv (c.1 + correction * c.2) c.2)

/-- The lane writes its valve slot, valid. -/
def State.writeValve (s : State) (l : LaneId) (value : Nat) : State :=
  match (s.lane l).config with
  | some c => s.writeSlot c.valveSlot value true
  | none => s

/-- The lane makes its valve slot not valid. -/
def State.dropValve (s : State) (l : LaneId) : State :=
  match (s.lane l).config with
  | some c => s.invalidateSlot c.valveSlot
  | none => s

/-- A lane's supervision IDLE with its pre-increase grant dropped (R21, R24); the retries stand as last counted. -/
def Supervision.abandon (u : Supervision) : Supervision :=
  { u with moving := false, preGrant := none, retry := .none }

/-- The correction that makes the valve command equal the measured opening (R7), exactly: the feedback value less the
inverse curve of min air, clamped to the correction limit in force (R2), as a numerator over the inverse curve's
denominator. -/
def adoptionCorrection (s : State) (c : LaneFields) (limit : Nat) (curve : List (Nat × Nat)) : Int :=
  let i := inverseCurve c.minAir curve
  match c.feedbackPoint.bind s.goodValue with
  | some v => clampInt (-(limit * i.2 : Int)) (limit * i.2) (v * i.2 - i.1)
  | none => 0

/-- The valve command of an adoption (R7): the inverse curve of min air plus the exact correction, rounded once. -/
def adoptionCommand (s : State) (c : LaneFields) (limit : Nat) (curve : List (Nat × Nat)) : Nat :=
  let i := inverseCurve c.minAir curve
  clampNat 0 1000 (roundDiv (i.1 + adoptionCorrection s c limit curve) i.2)

/-- A lane in ADOPTING completes its adoption when its grant reaches min air (R7, R11). -/
def State.completeAdoption (s : State) (l : LaneId) : State :=
  let r := s.lane l
  match r.mode, r.config with
  | .adopting target, some c =>
    if c.minAir ≤ s.grant l then
      let correction := roundDiv (adoptionCorrection s c r.correctionLimit r.curve) (inverseCurve c.minAir r.curve).2
      let command := adoptionCommand s c r.correctionLimit r.curve
      let r := { r with
        mode := target.mode, demand := c.minAir, lastValveGrant := c.minAir, correction := correction,
        valveCommand := command, sup := { r.sup.abandon with command := command }, timer := some c.period,
        bumpless := if target = .auto then true else r.bumpless,
        manualAir := if target = .manual then c.minAir else r.manualAir }
      (s.setLane l r).writeValve l command
    else s
  | _, _ => s

end Sys2Proof.Machine
end

