-- ==== Sys2Proof/Machine/Air.lean ====
section
/-! DEFINITION. The air allocator (chapter 3): grants, the request queue, serving, claims, cuts, freeze, staging timers. -/

namespace Sys2Proof.Machine

/-! ### Sums and tests -/

/-- Σ grants. -/
def Air.sumGrants (a : Air) : Nat := a.grants.toList.sum
/-- Σ queued. -/
def Air.sumQueued (a : Air) : Nat := (a.queue.map (·.amount)).sum
/-- The online capacity: the sum of the capacities in the capacity list (R46). -/
def Air.online (a : Air) : Nat := (a.capacity.map (·.2)).sum
/-- Available: online capacity less Σ grants when above 0, else 0. -/
def Air.available (a : Air) : Nat := a.online - a.sumGrants

/-- The shortfall condition (R62), with its sign. -/
def Air.shortfallHolds (a : Air) : Bool := decide (a.online < a.sumQueued + a.sumGrants)

/-- The surplus condition (R63). -/
def Air.surplusHolds (a : Air) : Bool :=
  decide (a.params.minOnline < a.capacity.length) &&
  match a.capacity.getLast? with
  | some (_, brought) => decide (a.sumGrants + a.sumQueued + brought + a.params.stageOutMargin ≤ a.online)
  | none => false

/-- A staging timer after its condition is tested: started, stopped, restarted if asked, or left running. -/
def stagingTimer (holds restart : Bool) (delay : Nat) (timer : Option Nat) : Option Nat :=
  if holds then
    match timer with
    | none => some delay
    | some n => if restart then some delay else some n
  else none

/-- The surplus condition tested (R63). -/
def Air.retimeSurplus (restart : Bool) (a : Air) : Air :=
  { a with surplus := stagingTimer a.surplusHolds restart a.params.stageOutDelay a.surplus }

/-- Both staging conditions tested (R62, R63). -/
def Air.retime (restartShortfall restartSurplus : Bool) (a : Air) : Air :=
  Air.retimeSurplus restartSurplus
    { a with shortfall := stagingTimer a.shortfallHolds restartShortfall a.params.stageInDelay a.shortfall }

def State.retime (s : State) (restartShortfall restartSurplus : Bool) : State :=
  { s with air := s.air.retime restartShortfall restartSurplus }

/-- The deficit state tested: SHORT ends at the first test that finds Σ grants within capacity (R59). -/
def State.testDeficit (s : State) : State :=
  if s.air.short ∧ s.air.sumGrants ≤ s.air.online then
    State.post { s with air := { s.air with short := false } } airShortEntry false
  else s

/-! ### The request queue (section 3.2) -/

/-- The lane's entry, if it has one. -/
def Air.entryOf (a : Air) (l : LaneId) : Option AirEntry := a.queue.find? (fun e => e.lane = l)

/-- The lane's entry changed in place. -/
def State.mapEntry (s : State) (l : LaneId) (f : AirEntry → AirEntry) : State :=
  { s with air := { s.air with queue := s.air.queue.map (fun e => if e.lane = l then f e else e) } }

/-- The air priority of a lane that is in force (R2): the queue's order and the cut's go by it. -/
def State.airPriority (s : State) (l : LaneId) : Nat := (s.lane l).airPriority

/-- A new entry's place: after every entry of the same or a more urgent priority, before every less urgent one
(R48). -/
def placeEntry (priority : LaneId → Nat) (e : AirEntry) : List AirEntry → List AirEntry
  | [] => [e]
  | x :: xs => if priority e.lane < priority x.lane then e :: x :: xs else x :: placeEntry priority e xs

/-- A lane's entry leaves the queue; a starved flag that was SET is reported as cleared (R49, R53). -/
def State.dropEntry (s : State) (l : LaneId) : State :=
  match s.air.entryOf l with
  | none => s
  | some e =>
    let s := { s with air := { s.air with queue := s.air.queue.filter (fun x => x.lane ≠ l) } }
    if e.starved then s.post (starvedEntry l) false else s

/-- A grant written; a raised grant of a lane in ADOPTING that reaches min air completes the adoption (R47). -/
def State.setGrant (s : State) (l : LaneId) (g : Nat) : State :=
  { s with air := { s.air with grants := s.air.grants.set l g } }

/-- Serving steps (R50), at most `fuel` of them: the head is granted the lesser of its amount and available. -/
def State.serveSteps : Nat → State → State
  | 0, s => s
  | fuel + 1, s =>
    match s.air.queue with
    | [] => s
    | e :: rest =>
      if s.air.freeze = .none ∧ s.air.short = false ∧ 0 < s.air.available then
        let given := min e.amount s.air.available
        let s' := s.setGrant e.lane (s.grant e.lane + given)
        let s' :=
          if e.amount ≤ given then s'.dropEntry e.lane
          else { s' with air := { s'.air with queue := { e with amount := e.amount - given } :: rest } }
        State.serveSteps fuel (s'.completeAdoption e.lane)
      else s

/-- Serving evaluated: each step removes the head or leaves nothing available, so the queue's length bounds them. -/
def State.serve (s : State) : State := s.serveSteps s.air.queue.length

/-- What follows a change of a grant, an entry or the capacity: the deficit test, the staging conditions, serving. -/
def State.settleAir (s : State) : State := (s.testDeficit.retime false false).serve

/-- A withdrawal claim (R49). -/
def State.withdraw (s : State) (l : LaneId) : State :=
  if (s.air.entryOf l).isSome then (s.dropEntry l).settleAir else s

/-- An increase request (R48). -/
def State.requestAir (s : State) (l : LaneId) (amount : Nat) : State :=
  if amount = 0 then s.withdraw l
  else
    let s :=
      if (s.air.entryOf l).isSome then s.mapEntry l (fun e => { e with amount := amount })
      else
        let queue := placeEntry s.airPriority ⟨l, amount, s.uptime, false⟩ s.air.queue
        { s with air := { s.air with queue := queue } }
    s.settleAir

/-- A release claim: the grant is lowered to the value named and the lane's entry leaves the queue (R51). -/
def State.releaseAir (s : State) (l : LaneId) (value : Nat) : State :=
  ((s.setGrant l (min value (s.grant l))).dropEntry l).settleAir

/-- A grant-timeout claim (R52). -/
def State.grantTimeout (s : State) (l : LaneId) (value : Nat) : State :=
  let s := s.setGrant l (min value (s.grant l))
  let s := { s with air := { s.air with lastTimeout := some l } }
  (s.notify .air .grantTimeout).settleAir

/-- The hold mark of a lane (R47). -/
def State.setHoldMark (s : State) (l : LaneId) (v : Bool) : State :=
  { s with air := { s.air with holdMarks := s.air.holdMarks.set l v } }

/-! ### The cut (R58) -/

/-- Cut order: least urgent priority first, then largest grant, then the higher-numbered lane. -/
def State.cutBefore (s : State) (x y : LaneId) : Bool :=
  decide (s.airPriority y < s.airPriority x) ||
  (s.airPriority x == s.airPriority y &&
    (decide (s.grant y < s.grant x) || (s.grant x == s.grant y && decide (y < x))))

/-- What Σ grants still exceeds the online capacity by. -/
def State.excess (s : State) : Nat := s.air.sumGrants - s.air.online

/-- One lane's grant lowered toward a floor, only as far as needed; in the first stage what is taken is added to the
lane's entry. -/
def State.cutLane (s : State) (floor : Nat) (requeue : Bool) (l : LaneId) : State :=
  let taken := min s.excess (s.grant l - floor)
  if taken = 0 then s
  else
    let s := s.setGrant l (s.grant l - taken)
    let s := if requeue then s.mapEntry l (fun e => { e with amount := e.amount + taken }) else s
    s.notify (.lane l) .cut

/-- The lane's min air. -/
def State.minAir (s : State) (l : LaneId) : Nat := ((s.lane l).config.map (·.minAir)).getD 0

/-- Lanes the first stage takes: partial grants in ADOPTING. -/
def State.cutFirst (s : State) : List LaneId :=
  sortBy s.cutBefore (allLanes.filter (fun l => (s.lane l).mode.isAdopting && decide (0 < s.grant l)))

/-- Lanes the second stage takes: hold mark CLEAR and a grant above min air. -/
def State.cutSecond (s : State) : List LaneId :=
  sortBy s.cutBefore (allLanes.filter (fun l => !s.air.holdMarks[l] && decide (s.minAir l < s.grant l)))

/-- The cut; if Σ grants still exceeds capacity at its end the allocator is SHORT (R58, R59). -/
def State.cut (s : State) : State :=
  let s := forAll s.cutFirst (fun l s => s.cutLane 0 true l) s
  let s := forAll s.cutSecond (fun l s => s.cutLane (s.minAir l) false l) s
  if 0 < s.excess then
    if s.air.short then s
    else (State.post { s with air := { s.air with short := true } } airShortEntry true).notify .air .short
  else s.testDeficit

/-! ### Capacity claims (R46, R56, R57) -/

/-- The capacity the blower brought, if it is in the list. -/
def Air.brought (a : Air) (b : BlowerId) : Option Nat := (a.capacity.find? (fun e => e.1 = b)).map (·.2)

/-- The blower's entry leaves the capacity list. -/
def State.dropCapacity (s : State) (b : BlowerId) : State :=
  { s with air := { s.air with capacity := s.air.capacity.filter (fun e => e.1 ≠ b) } }

/-- An add claim (R46). -/
def State.addCapacity (s : State) (b : BlowerId) (rated : Nat) : State :=
  let s := { s with air := { s.air with capacity := s.air.capacity ++ [(b, rated)] } }
  (s.testDeficit.retime true true).serve

/-- A loss claim (R57); a blower not in the list changes nothing. The shortfall timer is left as it stands. -/
def State.loseCapacity (s : State) (b : BlowerId) : State :=
  match s.air.brought b with
  | none => s
  | some _ =>
    let s := s.dropCapacity b
    let s := if 0 < s.excess then s.cut else s.testDeficit
    (s.retime false true).serve

/-- A voluntary withdrawal (R56): the state after it if ACCEPTED, none if REFUSED. -/
def State.offerWithdrawal (s : State) (b : BlowerId) : Option State :=
  match s.air.brought b with
  | none => none
  | some brought =>
    if s.air.params.minOnline < s.air.capacity.length ∧ s.air.sumGrants + brought ≤ s.air.online then
      some ((s.dropCapacity b).retime false true)
    else none

/-- The clearing of a lane's hold mark when it leaves HOLD for its return mode: while SHORT the cut runs again (R60). -/
def State.clearHoldMark (s : State) (l : LaneId) : State :=
  let s := s.setHoldMark l false
  if s.air.short then (s.cut.retime false false).serve else s

/-! ### Freeze (R54, R55) -/

/-- The larger of two freezes: INDEFINITE above any number, NONE as 0. -/
def Freeze.larger : Freeze → Freeze → Freeze
  | .indefinite, _ => .indefinite
  | _, .indefinite => .indefinite
  | .none, f => f
  | f, .none => f
  | .seconds m, .seconds n => .seconds (max m n)

/-- A freeze claim of a number of seconds, 65535 for INDEFINITE; 0 changes nothing. -/
def State.claimFreeze (s : State) (n : Nat) : State :=
  let f := if n = 0 then Freeze.none else if n = 65535 then .indefinite else .seconds n
  { s with air := { s.air with freeze := s.air.freeze.larger f } }

/-- The freeze ends, and serving is evaluated. -/
def State.endFreeze (s : State) : State := State.serve { s with air := { s.air with freeze := .none } }

/-- A numeric freeze counted down by one second. -/
def State.countFreeze (s : State) : State :=
  match s.air.freeze with
  | .seconds n => if n ≤ 1 then s.endFreeze else { s with air := { s.air with freeze := .seconds (n - 1) } }
  | _ => s

/-! ### Starvation (R53) -/

/-- A queued lane's starved flag is SET, and the lane posts STARVED (R19). -/
def State.starve (s : State) (l : LaneId) : State :=
  match s.air.entryOf l with
  | none => s
  | some e =>
    if e.starved then s
    else
      (s.mapEntry l (fun x => { x with starved := true })).post (starvedEntry l) true

/-- Every entry whose age exceeds the starvation limit (R53), in queue order (assumption log 33). -/
def State.testStarvation (s : State) : State :=
  forAll ((s.air.queue.filter (fun e => decide (s.air.params.starvationLimit < s.uptime - e.posted))).map (·.lane))
    (fun l s => s.starve l) s

/-! ### The requests -/

/-- AIR_SET (R64): the surplus condition, which reads two of the parameters, is tested again. -/
def airSetRequest (len : Nat) (f : AirFields) : Request :=
  request 0x20 len f.wire (fun s =>
    if f.inRange then
      .take { s with air := Air.retimeSurplus false { s.air with params := f } } f.wire
    else .refuse .range)

/-- AIR_FREEZE (R55). -/
def airFreezeRequest (len seconds : Nat) : Request :=
  request 0x21 len [.u16 seconds] (fun s =>
    if 65535 < seconds then .refuse .range
    else
      let t := if seconds = 0 then s.endFreeze else s.claimFreeze seconds
      .take t [t.air.freeze.wire])

/-- The body of AIR_READ's reply (R65). -/
def airReadBody (s : State) : List WireField :=
  let a := s.air
  [.u16 a.online, .u32 a.sumGrants, .u16 a.available, .u32 a.sumQueued] ++
  wireList (a.capacity.map (fun (b, c) => [.u8 b.val, .u16 c])) ++
  allLanes.flatMap (fun l => [.u16 a.grants[l], flag a.holdMarks[l]]) ++
  wireList (a.queue.map (fun e => [.u8 e.lane.val, .u16 e.amount, .u16 (s.uptime - e.posted), flag e.starved])) ++
  [a.freeze.wire, flag a.short, optFin a.lastTimeout, optU16 a.shortfall, optU16 a.surplus] ++ a.params.wire

/-- AIR_READ (R65): reading changes nothing. -/
def airReadRequest (len : Nat) : Request :=
  request 0x22 len [] (fun s => .take s (airReadBody s))

/-! ### The events -/

/-- AIR_SERVING: serving is evaluated (R50). -/
def execAirServing (s : State) : Host.Outcome State Fault Refusal := event State.serve s

/-- FREEZE_END: a numeric freeze becomes NONE, and serving is evaluated (R54). -/
def execFreezeEnd (s : State) : Host.Outcome State Fault Refusal :=
  event (fun s => match s.air.freeze with
    | .seconds _ => s.endFreeze
    | _ => s) s

/-- ENTRY_STARVED: the lane's entry is found older than the starvation limit (R53). -/
def execEntryStarved (l : LaneId) (s : State) : Host.Outcome State Fault Refusal := event (fun s => s.starve l) s

end Sys2Proof.Machine
end

