-- ==== Sys2Proof/Machine/Lane.lean ====
section
/-! DEFINITION. The lanes (chapters 1 and 2): modes, the lane period and its stages, trim faults and HOLD, valve move
supervision, the lane requests and events. -/

namespace Sys2Proof.Machine

/-! ### Conditions -/

/-- TRIM_FAULT is true while the cause is not NONE and the notice gate is OPEN (R42). -/
def State.postTrim (s : State) (l : LaneId) : State :=
  s.post (trimFault l) ((s.lane l).cause.isSome && (s.lane l).gateOpen)

/-- The fault cause and the fault record cleared. -/
def Lane.clearFault (r : Lane) : Lane := { r with cause := none, record := none }

/-! ### Entering modes -/

/-- Entering OUT_OF_SERVICE or PARKED (R5). A move between the two changes the mode and the woken mark only. The order of
the conditions it returns, STARVED with the withdrawal and TRIM_FAULT last, is the model's (assumption log 40). -/
def State.enterParked (s : State) (l : LaneId) (mode : LaneMode) : State :=
  let r := s.lane l
  if r.mode = .outOfService ∨ r.mode = .parked then s.setLane l { r with mode := mode, woken := false }
  else
    let s := s.setLane l { r.clearFault with
      mode := mode, timer := none, sup := r.sup.abandon, stalled := false, woken := false, valveCommand := 0 }
    let s := ((s.setHoldMark l false).releaseAir l 0).writeValve l 0
    let s := ((((s.post (lowDo l) false).post (highDo l) false).post (valveStall l) false).post
      (starvedEntry l) false).postTrim l
    s.suppressLane l true

/-- Entering ADOPTING (R6): the slot not valid, an increase request of min air less the current grant. -/
def State.enterAdopting (s : State) (l : LaneId) (target : RunMode) : State :=
  let r := s.lane l
  let s := s.setLane l { r with
    mode := .adopting target, timer := none, sup := r.sup.abandon, stalled := false, load := .cold, mismatchRun := 0 }
  let s := ((s.dropValve l).post (valveStall l) false).suppressLane l false
  s.requestAir l (s.minAir l - s.grant l)

/-- Entering HOLD from AUTO or MANUAL (R35): the grant is kept, and the valve slot valid at the valve command of the last
completed period, but that a retry under way makes it valid in its own frame (R24, R40, assumption log 23). TRIM_FAULT is
posted after the withdrawal, but that lanePeriod has posted it before (assumption log 40). -/
def State.enterHold (s : State) (l : LaneId) : State :=
  let r := s.lane l
  let ret := if r.mode = .manual then RunMode.manual else .auto
  let s := s.setLane l { r with mode := .hold ret, timer := none }
  let s := if r.sup.retry = .none then s.writeValve l r.valveCommand else s
  (((s.setHoldMark l true).withdraw l).notify (.lane l) .holdEntered).postTrim l

/-- A wake claim (R10). -/
def State.wake (s : State) (l : LaneId) : State :=
  let r := s.lane l
  match r.mode, r.config with
  | .parked, some c =>
    if c.wakes && !r.curve.isEmpty then
      let s := s.enterAdopting l .auto
      (s.setLane l { s.lane l with woken := true }).notify (.lane l) .woken
    else s
  | _, _ => s

/-- A re-park claim (R10). -/
def State.repark (s : State) (l : LaneId) : State :=
  let r := s.lane l
  match r.config with
  | some c => if r.woken && c.reparks then s.enterParked l .parked else s
  | none => s

/-! ### Trim faults (R29 to R37) -/

/-- A period at work: the lane as the stages have it, whether a fault was taken, and whether the period is abandoned
into HOLD. -/
structure Working where
  lane : Lane
  took : Bool
  stop : Bool

/-- The fault record (R37): the setpoint in use as it stands when the fault is found, the demand from before. -/
def faultRecord (s : State) (c : LaneFields) (before : Lane) (k : FaultKind) (r : Lane) : FaultRecord :=
  let p := s.pointAt c.doPoint
  ⟨k, r.periodNumber, p.value, p.quality, r.setpoint, before.demand⟩

/-- A kind found by a check: its sticky bit, and what R30 disposes. -/
def detect (s : State) (c : LaneFields) (before : Lane) (k : FaultKind) (w : Working) : Working :=
  let r := { w.lane with sticky := w.lane.sticky ||| k.bit }
  if (r.faultConfig.enabled &&& k.bit) = 0 ∨ r.cause.isSome then { w with lane := r }
  else
    let r := { r with cause := some k, record := some (faultRecord s c before k r) }
    if r.gateOpen then { lane := r, took := true, stop := !r.faultConfig.continues }
    else { w with lane := r }

/-- FLOW_UNUSABLE (R31, fallback OFF): it cannot be masked; a closed gate leaves it pending, an open one takes the lane
to HOLD. -/
def detectUnusable (s : State) (c : LaneFields) (before : Lane) (w : Working) : Working :=
  let r := { w.lane with sticky := w.lane.sticky ||| FaultKind.flowUnusable.bit }
  if r.cause.isSome then { w with lane := r, stop := r.gateOpen }
  else
    let r := { r with cause := some .flowUnusable, record := some (faultRecord s c before .flowUnusable r) }
    { lane := r, took := w.took || r.gateOpen, stop := r.gateOpen }

/-- What an abandoned period leaves (R35): every field as before it, but the sticky set, the cause and the record. -/
def abandonPeriod (before : Lane) (w : Working) : Lane :=
  { before with sticky := w.lane.sticky, cause := w.lane.cause, record := w.lane.record }

/-- The kind a stage-1 check finds on the DO point's quality. -/
def inputFault : Quality → Option FaultKind
  | .good => none
  | .overrange => some .range
  | .underrange => some .range
  | .absent => some .absentInput
  | .stale => some .absentInput
  | .maint => some .absentInput
  | .unbound => some .absentInput

/-- The demand substituted for an untrusted DO reading (section 2.3). -/
def substituteDemand (c : LaneFields) (sub : Substitution) (q : Quality) (previous : Nat) : Nat :=
  match sub, q with
  | .holdLast, _ => previous
  | .fixed, _ => c.fallbackAir
  | .lean, .underrange => previous
  | .lean, _ => c.minAir
  | .rich, .overrange => previous
  | .rich, _ => c.maxAir

/-- The setpoint substituted for an untrusted NH4 reading (section 2.3). -/
def substituteSetpoint (c : LaneFields) (sub : Substitution) (cascaded : Nat) : Nat :=
  match sub with
  | .holdLast => cascaded
  | .lean => c.spLow
  | .rich => c.spHigh
  | .fixed => c.doSetpoint

/-! ### The stages of the lane period (R12 to R19) -/

/-- Stage 1, AUTO only. -/
def stageInputs (s : State) (c : LaneFields) (before : Lane) (w : Working) : Working :=
  if before.mode = .auto then
    match inputFault (s.pointAt c.doPoint).quality with
    | some k => detect s c before k w
    | none => w
  else w

/-- The cascaded setpoint (R12): DO setpoint plus gain in whole percent times the NH4 error, clamped. -/
def cascadeSetpoint (c : LaneFields) (nh4 : Int) : Nat :=
  clampNat c.spLow c.spHigh (roundDiv ((c.doSetpoint : Int) * 100 + c.cascadeGain * (nh4 - c.nh4Setpoint)) 100)

/-- Stage 2 (R12, R34). -/
def stageSetpoint (s : State) (c : LaneFields) (before : Lane) (w : Working) : Working :=
  let put (w : Working) (sp : Nat) : Working := { w with lane := { w.lane with setpoint := sp } }
  if w.stop then w
  else if s.plant.storm then put w c.stormSetpoint
  else if !c.cascadeOn then put w c.doSetpoint
  else if before.mode ≠ .auto then put w w.lane.cascaded
  else
    match c.nh4Point.bind s.goodValue with
    | none =>
      let w := detect s c before .cascadeInput w
      if w.stop then w else put w (substituteSetpoint c w.lane.faultConfig.substitution w.lane.cascaded)
    | some nh4 =>
      if before.periodNumber % c.cascadeDivider = 0 then
        let sp := cascadeSetpoint c nh4
        { w with lane := { w.lane with cascaded := sp, setpoint := sp } }
      else put w w.lane.cascaded

/-- The train that drives the lane's feed-forward term, if it is named and configured. -/
def feedTrain (s : State) (c : LaneFields) : Option TrainFields :=
  (c.train.bind (asId 4)).bind (fun t => (s.train t).config)

/-- Load memory after this period's readings, and the change in train load when both loads are known (R14). -/
def loadAfter (s : State) (c : LaneFields) (m : LoadMemory) : LoadMemory × Option Int :=
  let influent := ((feedTrain s c).bind (fun t => s.goodValue t.influentPoint)).or m.influent
  let ras := ((feedTrain s c).bind (fun t => s.goodValue t.rasFlowPoint)).or m.ras
  let load := influent.bind (fun a => ras.map (fun b => a + b))
  ({ influent := influent, ras := ras, previous := load },
   (feedTrain s c).bind (fun _ => load.bind (fun now => m.previous.map (fun old => now - old))))

/-- The DO loop in velocity form with feed-forward (R13, R14), over the common denominator 100 Ti, rounded once. -/
def loopDemand (c : LaneFields) (r : Lane) (error : Int) (loadChange : Int) : Int :=
  let proportional : Int := if r.bumpless then 0 else c.kp * (error - r.previousError)
  roundDiv ((r.demand : Int) * (100 * c.ti) + proportional * c.ti + c.kp * c.period * error +
    c.feedForward * loadChange * c.ti) (100 * c.ti)

/-- Stages 3 and 4: the demand, then its clamp with the SATURATION check in AUTO (R13, R15, R33). -/
def stageDemand (s : State) (c : LaneFields) (before : Lane) (w : Working) : Working :=
  if w.stop then w
  else
    let (load, change) := loadAfter s c w.lane.load
    let r := { w.lane with load := load }
    if before.mode ≠ .auto then { w with lane := { r with demand := clampNat c.minAir c.maxAir r.manualAir } }
    else
      let p := s.pointAt c.doPoint
      let (demand, r) : Int × Lane :=
        if p.quality = .good then
          let error := (r.setpoint : Int) - p.value
          (loopDemand c r error (change.getD 0), { r with bumpless := false, previousError := error })
        else (substituteDemand c r.faultConfig.substitution p.quality before.demand, { r with bumpless := true })
      let clamped := clampNat c.minAir c.maxAir demand
      let w := { w with lane := { r with demand := clamped } }
      if (clamped : Int) ≠ demand then detect s c before .saturation w else w

/-- The claim a lane decides at stage 5 (R16). -/
inductive AirClaim where
  | release (value : Nat)
  | increase (amount : Nat)
  | withdraw

/-- Stage 5 (R16). -/
def decideClaim (c : LaneFields) (demand grant : Nat) (stalled : Bool) : AirClaim :=
  if demand + c.releaseDeadband < grant then .release demand
  else if grant < demand ∧ stalled = false then .increase (demand - grant)
  else .withdraw

/-- The grant stages 6 and 7 use. -/
def AirClaim.grantAfter (grant : Nat) : AirClaim → Nat
  | .release v => v
  | _ => grant

/-- Present the claim to the allocator. -/
def State.presentClaim (s : State) (l : LaneId) : AirClaim → State
  | .release v => s.releaseAir l v
  | .increase n => s.requestAir l n
  | .withdraw => s.withdraw l

/-- Does the flow error exceed the mismatch tolerance, in whole percent, of the grant (R32)? -/
def mismatches (c : LaneFields) (grant : Nat) (error : Int) : Bool :=
  decide (c.mismatchTolerance * grant < error.natAbs * 100)

/-- Stage 6 (R17, R31, R32): `true` beside the result when the period is abandoned. -/
def stageFlow (s : State) (c : LaneFields) (before : Lane) (grant : Nat) (w : Working) : Working × Bool :=
  match s.goodValue c.airflowPoint with
  | some flow =>
    let error := (grant : Int) - flow
    let limit := (c.correctionLimit : Int)
    let correction := clampInt (-limit) limit (roundDiv (w.lane.correction * 100 + c.flowGain * error) 100)
    let run := if mismatches c grant error then w.lane.mismatchRun + 1 else 0
    let w := { w with lane := { w.lane with correction := correction, mismatchRun := run } }
    if c.mismatchCount ≤ run then
      let w := detect s c before .flowMismatch { w with lane := { w.lane with mismatchRun := 0 } }
      (w, w.stop)
    else (w, false)
  | none =>
    if w.lane.faultConfig.fallback then
      ({ w with lane := { w.lane with mismatchRun := 0, openLoopSticky := true } }, false)
    else (detectUnusable s c before w, true)

/-- The supervised move a new valve command starts (R20), if any. With the stall window 0 while an earlier move is MOVING,
that move stays MOVING at its own target (assumption log 30). -/
def Supervision.startMove (u : Supervision) (c : LaneFields) (command grant lastGrant : Nat) : Supervision :=
  if c.valveDeadband < distance command u.command then
    let u' := { u with command := command }
    if c.feedbackPoint.isSome && decide (0 < c.stallWindow) then
      let own := if lastGrant < grant then some lastGrant else none
      let pre := if u.moving then
          match u.preGrant, own with
          | some a, some b => some (min a b)
          | some a, none => some a
          | none, o => o
        else own
      { u' with moving := true, target := command, window := c.stallWindow, retries := 0, preGrant := pre,
                retry := .none }
    else u'
  else u

/-- The completed period's number plus one (R19); what follows 4294967295 is not stated (assumption log 12). -/
def nextPeriodNumber (l : LaneId) (n : Nat) : Nat :=
  if n < 4294967295 then n + 1 else Config.periodNumberPastMax l % 4294967296

/-- Stages 7 and 8 of a period that was not abandoned (R18, R19): the valve, the conditions, the period number. -/
def State.finishPeriod (s : State) (l : LaneId) (c : LaneFields) (grant : Nat) : State :=
  let r := s.lane l
  let command := valveCommandFor r.curve grant r.correction
  let s := s.setLane l { r with
    sup := r.sup.startMove c command grant r.lastValveGrant, valveCommand := command, lastValveGrant := grant,
    periodNumber := nextPeriodNumber l r.periodNumber }
  let s := s.writeValve l command
  let reading := s.goodValue c.doPoint
  (s.post (lowDo l) (reading.any (fun v => decide (v < (c.doLow : Int))))).post (highDo l)
    (reading.any (fun v => decide ((c.doHigh : Int) < v)))

/-- What follows a period's checks at the notices and the TRIM_FAULT entry (R35, R36), before the entry to HOLD
(assumption log 40) or the period's claim (R35). -/
def State.reportFault (s : State) (l : LaneId) (w : Working) : State :=
  (if w.took then s.notify (.lane l) .faultTaken else s).postTrim l

/-- The lane as a period begins (R11, R2): the timer restarted; the air priority, the correction limit, the feedback
tolerance and the retry limit taken into force. -/
def Lane.beginPeriod (r : Lane) (c : LaneFields) : Lane :=
  { r with timer := some c.period, airPriority := c.airPriority, correctionLimit := c.correctionLimit,
           sup := { r.sup with tolerance := c.feedbackTolerance, retryLimit := c.retryLimit } }

/-- The lane period (R11): the timer is restarted and the stages run in order. The claim of stage 5 is decided on the
grant as it stands and presented when the period has passed the checks of stage 6 (R35). -/
def State.lanePeriod (s : State) (l : LaneId) : State :=
  match (s.lane l).config with
  | none => s
  | some c =>
    if (s.lane l).mode.runs then
      let before := (s.lane l).beginPeriod c
      let w := stageDemand s c before (stageSetpoint s c before (stageInputs s c before ⟨before, false, false⟩))
      if w.stop then
        ((s.setLane l (abandonPeriod before w)).reportFault l w).enterHold l
      else
        let claim := decideClaim c w.lane.demand (s.grant l) w.lane.stalled
        let grant := claim.grantAfter (s.grant l)
        let (w, abandoned) := stageFlow s c before grant w
        if abandoned then
          let s := (s.setLane l (abandonPeriod before w)).reportFault l w
          if w.stop then s.enterHold l else s
        else
          (((s.setLane l w.lane).reportFault l w).presentClaim l claim).finishPeriod l c grant
    else s

/-! ### Valve move supervision (R21 to R24) -/

/-- A move stalls (R23). -/
def State.stallMove (s : State) (l : LaneId) : State :=
  let r := s.lane l
  let named := r.sup.preGrant.map (fun p => min p (s.grant l))
  let s := s.setLane l { r with sup := r.sup.abandon, stalled := true }
  let s := (((s.post (valveStall l) true).notify (.lane l) .stall)).withdraw l
  match named with
  | some v => s.grantTimeout l v
  | none => s

/-- A window ends (R22): a retry, or the move stalls. The retry limit is the one in force (R2). Retries used above a
limit lowered since, of which R22 does not speak, stall the move (assumption log 30); between a window's end and the new
window the window remaining is held at 0 (assumption log 30). -/
def State.endWindow (s : State) (l : LaneId) : State :=
  let r := s.lane l
  if r.sup.retryLimit = 0 ∨ r.sup.retries < r.sup.retryLimit then
    let sup := { r.sup with window := 0, retries := heldAdd 15 r.sup.retries, retry := .dropped }
    (s.setLane l { r with sup := sup }).dropValve l
  else s.stallMove l

/-- The opening at which a retry makes the slot valid again: the move's target (R22); in HOLD the held command, the valve
command of the last completed period (R24, R35, R40). -/
def Lane.retryOpening (r : Lane) : Nat := if r.mode.isHold then r.valveCommand else r.sup.target

/-- After the frame sent with the slot not valid: the slot is valid again and a new window is set (R22, R24). A stall window
of 0 switches supervision off (section 1.1). A stall window changed in HOLD is used here too: R22 and R2 take it at the next
window started, R40 from the first period after release, and the model follows R22 (assumption log 30). -/
def State.revalidate (s : State) (l : LaneId) (c : LaneFields) : State :=
  let r := s.lane l
  let sup := if c.stallWindow = 0 then r.sup.abandon else { r.sup with window := c.stallWindow, retry := .none }
  (s.setLane l { r with sup := sup }).writeValve l r.retryOpening

/-- Is the feedback GOOD and within a tolerance of an opening? -/
def feedbackNear (s : State) (c : LaneFields) (tolerance opening : Nat) : Bool :=
  (c.feedbackPoint.bind s.goodValue).any (fun v => decide (distance v opening ≤ tolerance))

/-- The stalled flag clears when the feedback is within tolerance of the valve command (R21). -/
def State.testStalled (s : State) (l : LaneId) (c : LaneFields) : State :=
  let r := s.lane l
  if r.stalled && feedbackNear s c r.sup.tolerance r.valveCommand then
    (s.setLane l { r with stalled := false }).post (valveStall l) false
  else s

/-- The move under supervision at a frame update (R21, R22). A move that completes after its window has ended and before the
frame with the slot not valid is sent makes the slot valid at once (assumption log 23). -/
def State.superviseMove (s : State) (l : LaneId) (c : LaneFields) : State :=
  if (s.lane l).sup.moving then
    let fresh := decide ((s.lane l).sup.retry = .sent)
    let s := if fresh then s.revalidate l c else s
    let r := s.lane l
    if !r.sup.moving then s
    else if feedbackNear s c r.sup.tolerance r.sup.target then
      let s := s.setLane l { r with sup := r.sup.abandon }
      if r.sup.retry = .dropped then s.writeValve l r.retryOpening else s
    else if fresh || r.sup.retry = .dropped then s
    else
      let s := s.setLane l { r with sup := { r.sup with window := r.sup.window - 1 } }
      if r.sup.window ≤ 1 then s.endWindow l else s
  else s

/-- A frame update of a lane's valve feedback point on a judged hub (R21). -/
def State.laneFeedback (h : HubId) (l : LaneId) (s : State) : State :=
  match (s.lane l).config with
  | some c =>
    if c.feedbackPoint.any (onHub h) && ((s.lane l).mode.runs || (s.lane l).mode.isHold) then
      (s.testStalled l c).superviseMove l c
    else s
  | none => s

/-- The frame with the slot not valid has been sent (R22). -/
def Lane.frameSent (r : Lane) : Lane :=
  if r.sup.retry = .dropped then { r with sup := { r.sup with retry := .sent } } else r

/-! ### The requests -/

/-- The points a lane binds. -/
def LaneFields.points (f : LaneFields) : List Nat :=
  [f.doPoint, f.airflowPoint] ++ f.nh4Point.toList ++ f.feedbackPoint.toList

/-- The air priority in force after a LANE_SET (R2): the first one brings its own (assumption log 30); a change comes into
force at once on a lane with an entry in the request queue. -/
def Lane.priorityAfter (r : Lane) (queued : Bool) (f : LaneFields) : Nat :=
  match r.config with
  | none => f.airPriority
  | some g => if queued && g.airPriority != f.airPriority then f.airPriority else r.airPriority

/-- LANE_SET's effect once every check has passed (R1, R2). -/
def State.takeLaneSet (s : State) (l : LaneId) (f : LaneFields) : State :=
  let r := s.lane l
  let oldSlot := r.config.map (·.valveSlot)
  let s := if oldSlot = some f.valveSlot then s
    else ((match oldSlot with
      | some q => s.releaseSlot q
      | none => s).claimSlot f.valveSlot (.laneValve l)).writeSlot f.valveSlot 0 true
  let s := s.setLane l { r with
    config := some f, airPriority := r.priorityAfter (s.air.entryOf l).isSome f,
    correctionLimit := if r.config.isNone then f.correctionLimit else r.correctionLimit }
  let s := if r.mode = .unconfigured then s.enterParked l .outOfService else s
  match s.air.entryOf l with
  | some e =>
    if r.config.any (fun g => g.airPriority != f.airPriority) then (s.withdraw l).requestAir l e.amount else s
  | none => s

/-- May a lane in this mode take a structural change (R1)? -/
def LaneMode.takesStructure : LaneMode → Bool
  | .unconfigured => true
  | .outOfService => true
  | .parked => true
  | _ => false

/-- LANE_SET (R1, R2). -/
def laneSetRequest (len lane : Nat) (f : LaneFields) : Request :=
  request 0x10 len (.u8 lane :: f.wire) (fun s => forObject 12 lane fun l =>
    if !f.inRange then .refuse .range
    else if (s.lane l).config.any (fun g => !f.sameStructure g) && !(s.lane l).mode.takesStructure then .refuse .state
    else if (LaneFields.points f).any (fun p => (s.pointAt p).kind == .discrete) || !s.slotFree f.valveSlot (.laneValve l) then
      .refuse .conflict
    else
      let t := s.takeLaneSet l f
      .take t [.u8 (t.lane l).mode.code])

/-- LANE_CURVE (R3); the count byte is the number of points given. A frame shorter or longer than the kind allows is a
wrong length (R185, R191); a count out of range in a frame of an allowed length is out of range (R3, assumption log 8).
The reply carries the curve as now held (assumption log 15). -/
def laneCurveRequest (len lane : Nat) (curve : List (Nat × Nat)) : Request :=
  requestIf 0x11 len (.u8 lane :: curveWire curve)
    (listLengthFor len (.u8 lane :: curveWire curve) (2, curve.length, 8) (11, 35)) (fun s => forObject 12 lane fun l =>
      if !curveInRange curve then .refuse .range
      else if (s.lane l).mode = .unconfigured then .refuse .unconfigured
      else if (s.lane l).mode = .outOfService ∨ (s.lane l).mode = .parked then
        .take (s.setLane l { s.lane l with curve := curve }) (curveWire curve)
      else .refuse .state)

/-- LANE_MODE to OUT_OF_SERVICE or PARKED (R4), taken in every mode but UNCONFIGURED. -/
def laneOutOf (s : State) (l : LaneId) (mode : LaneMode) : Verdict :=
  let t := s.enterParked l mode
  .take t [.u8 (t.lane l).mode.code]

/-- LANE_MODE to AUTO or MANUAL (R4, R6, R8); a taken one clears the woken mark. -/
def laneInto (s : State) (l : LaneId) (target : RunMode) : Verdict :=
  let r := { s.lane l with woken := false }
  let reply (t : State) : Verdict := .take t [.u8 (t.lane l).mode.code]
  match r.mode with
  | .unconfigured => .refuse .unconfigured
  | .hold _ => .refuse .state
  | .adopting _ => reply (s.setLane l { r with mode := .adopting target })
  | .auto => match target with
    | .auto => reply (s.setLane l r)
    | .manual => reply (s.setLane l { r with mode := .manual, manualAir := r.demand })
  | .manual => match target with
    | .auto => reply (s.setLane l { r with mode := .auto, bumpless := true })
    | .manual => reply (s.setLane l r)
  | .outOfService => if r.curve.isEmpty then .refuse .unconfigured else reply ((s.setLane l r).enterAdopting l target)
  | .parked => if r.curve.isEmpty then .refuse .unconfigured else reply ((s.setLane l r).enterAdopting l target)

/-- LANE_MODE (R4). -/
def laneModeRequest (len lane mode : Nat) : Request :=
  request 0x12 len [.u8 lane, .u8 mode] (fun s => forObject 12 lane fun l =>
    if mode ≠ 1 ∧ mode ≠ 2 ∧ mode ≠ 4 ∧ mode ≠ 5 then .refuse .range
    else if (s.lane l).mode = .unconfigured then .refuse .unconfigured
    else if mode = 1 then laneOutOf s l .outOfService
    else if mode = 2 then laneOutOf s l .parked
    else if mode = 4 then laneInto s l .auto
    else laneInto s l .manual)

/-- LANE_MANUAL_AIR (R9). The reply carries the manual air (assumption log 15). -/
def laneManualAirRequest (len lane air : Nat) : Request :=
  request 0x13 len [.u8 lane, .u16 air] (fun s => forObject 12 lane fun l =>
    match (s.lane l).config with
    | none => .refuse .unconfigured
    | some c =>
      if (s.lane l).mode ≠ .manual then .refuse .state
      else if c.minAir ≤ air ∧ air ≤ c.maxAir then
        .take (s.setLane l { s.lane l with manualAir := air }) [.u16 air]
      else .refuse .range)

/-- The fault configuration a LANE_FAULT_SET gives. -/
def FaultFields.config (f : FaultFields) : FaultConfig :=
  { enabled := BitVec.ofNat 6 f.enableMask, substitution := Substitution.ofCode f.substitution,
    continues := f.faultMode == 1, fallback := f.fallback == 1 }

def FaultConfig.wire (c : FaultConfig) : List WireField :=
  [.u8 c.enabled.toNat, .u8 c.substitution.code, flag c.continues, flag c.fallback]

/-- LANE_FAULT_SET (R28). -/
def laneFaultSetRequest (len lane : Nat) (f : FaultFields) : Request :=
  request 0x14 len (.u8 lane :: f.wire) (fun s => forObject 12 lane fun l =>
    if !f.inRange then .refuse .range
    else if (s.lane l).mode = .unconfigured then .refuse .unconfigured
    else if (s.lane l).cause.isSome then .refuse .state
    else .take (s.setLane l { s.lane l with faultConfig := FaultFields.config f })
      (FaultFields.config f).wire)

/-- The gate set (R39): opening takes a pending fault. -/
def State.setGate (s : State) (l : LaneId) (gate : Bool) : State :=
  let r := s.lane l
  if r.gateOpen = gate then s
  else
    let s := s.setLane l { r with gateOpen := gate }
    if gate && r.cause.isSome && !r.mode.isHold then
      let s := s.notify (.lane l) .faultTaken
      if r.mode.runs && (!r.faultConfig.continues || r.cause == some .flowUnusable) then s.enterHold l
      else s.postTrim l
    else s.postTrim l

/-- LANE_GATE (R39). -/
def laneGateRequest (len lane gate : Nat) : Request :=
  request 0x15 len [.u8 lane, .u8 gate] (fun s => forObject 12 lane fun l =>
    if 1 < gate then .refuse .range
    else if (s.lane l).mode = .unconfigured then .refuse .unconfigured
    else
      let t := s.setGate l (gate == 1)
      let r := t.lane l
      .take t [flag r.gateOpen, .u8 r.mode.code, .u8 ((r.cause.map FaultKind.code).getD 0)])

/-- A release in HOLD or of a cause held outside it (R41, R60). In HOLD the hold mark is cleared first, with the cut that a
SHORT allocator then makes, and TRIM_FAULT posted after it (assumption log 40). -/
def State.releaseLane (s : State) (l : LaneId) : State :=
  let r := (s.lane l).clearFault
  match r.mode with
  | .hold ret =>
    let r := { r with mode := ret.mode, bumpless := true, timer := r.config.map (·.period) }
    ((s.setLane l r).clearHoldMark l).postTrim l
  | _ => (s.setLane l r).postTrim l

/-- LANE_RELEASE (R41). -/
def laneReleaseRequest (len lane : Nat) : Request :=
  request 0x16 len [.u8 lane] (fun s => forObject 12 lane fun l =>
    if (s.lane l).mode = .unconfigured then .refuse .unconfigured
    else if (s.lane l).cause = none then .refuse .state
    else
      let t := s.releaseLane l
      .take t [.u8 (t.lane l).mode.code])

/-- LANE_READ part DYNAMIC, in the order of R25. In IDLE a move's target and window are absent. -/
def laneDynamic (s : State) (l : LaneId) : List WireField :=
  let r := s.lane l
  let target := match r.mode with
    | .adopting t => some t.code
    | _ => none
  let ret := match r.mode with
    | .hold t => some t.code
    | _ => none
  let moving {α : Type} (v : α) : Option α := if r.sup.moving then some v else none
  [.u8 r.mode.code, optU8 target, optU8 ret, .u32 r.periodNumber, .u16 r.setpoint, .u16 r.cascaded,
   .i32 r.previousError, flag r.bumpless, .u16 r.demand, .u16 (s.grant l), .u16 r.lastValveGrant, .u16 r.manualAir,
   .i16 r.correction, .u16 r.valveCommand] ++
  [flag r.sup.moving, optU16 (moving r.sup.target), optU8 (moving r.sup.window), .u8 r.sup.retries,
   optU16 r.sup.preGrant, .u16 r.sup.command, flag r.stalled, .u8 r.mismatchRun, flag r.woken,
   .u8 ((r.cause.map FaultKind.code).getD 0), flag r.gateOpen]

/-- LANE_READ (R25). -/
def laneReadRequest (len lane part : Nat) : Request :=
  request 0x17 len [.u8 lane, .u8 part] (fun s => forObject 12 lane fun l =>
    let r := s.lane l
    if 2 < part then .refuse .range
    else if part = 2 then .take s (laneDynamic s l)
    else
      match r.config with
      | none => .refuse .unconfigured
      | some c =>
        if part = 0 then .take s c.wire
        else if r.curve.isEmpty then .refuse .unconfigured
        else .take s (curveWire r.curve))

def FaultRecord.wire (r : FaultRecord) : List WireField :=
  [.u8 r.kind.code, .u32 r.periodNumber, .i32 r.doValue, .u8 r.doQuality.code, .u16 r.setpoint, .u16 r.demandBefore]

/-- The fault record's place in a reply when there is none: each field absent. -/
def absentFaultRecord : List WireField :=
  [optU8 none, optU32 none, optI32 none, optU8 none, optU16 none, optU16 none]

/-- LANE_FAULT_READ's body (R43). -/
def laneFaultBody (r : Lane) : List WireField :=
  r.faultConfig.wire ++ [.u8 ((r.cause.map FaultKind.code).getD 0)] ++
  (match r.record with
    | some f => f.wire
    | none => absentFaultRecord) ++
  [flag (r.cause.isSome && !r.mode.isHold && !r.gateOpen), .u8 r.sticky.toNat, flag r.openLoopSticky,
   flag r.gateOpen, .u8 r.mismatchRun]

/-- LANE_FAULT_READ (R43): the reply carries the values from before the clearing. -/
def laneFaultReadRequest (len lane clear : Nat) : Request :=
  request 0x18 len [.u8 lane, .u8 clear] (fun s => forObject 12 lane fun l =>
    let r := s.lane l
    if 1 < clear then .refuse .range
    else .take (if clear = 1 then s.setLane l { r with sticky := 0, openLoopSticky := false } else s)
      (laneFaultBody r))

/-! ### The events -/

/-- LANE_PERIOD: the lane's period timer expires (R11); it runs in AUTO and MANUAL only. -/
def execLanePeriod (l : LaneId) (s : State) : Host.Outcome State Fault Refusal := event (fun s => s.lanePeriod l) s

/-- FLOW_MISMATCH_DETECTED: the mismatch run count reaches the mismatch count (R32); disposed of by R30. Taken in LATCHED
the period is abandoned and the count stays as it stood before it (R35). -/
def State.flowMismatch (s : State) (l : LaneId) : State :=
  match (s.lane l).config with
  | some c =>
    if (s.lane l).mode.runs then
      let before := s.lane l
      let w := detect s c before .flowMismatch ⟨{ before with mismatchRun := 0 }, false, false⟩
      if w.stop then ((s.setLane l (abandonPeriod before w)).reportFault l w).enterHold l
      else (s.setLane l w.lane).reportFault l w
    else s
  | none => s

def execFlowMismatchDetected (l : LaneId) (s : State) : Host.Outcome State Fault Refusal :=
  event (fun s => s.flowMismatch l) s

/-- VALVE_WINDOW_END: the window of the lane's supervised move runs out (R22). -/
def execValveWindowEnd (l : LaneId) (s : State) : Host.Outcome State Fault Refusal :=
  event (fun s => if (s.lane l).sup.moving ∧ (s.lane l).sup.retry = .none then s.endWindow l else s) s

/-- VALVE_RETRY_REVALIDATE: the frame with the slot not valid has gone (R22). -/
def execValveRetryRevalidate (l : LaneId) (s : State) : Host.Outcome State Fault Refusal :=
  event (fun s => match (s.lane l).config with
    | some c => if (s.lane l).sup.moving ∧ (s.lane l).sup.retry ≠ .none then s.revalidate l c else s
    | none => s) s

end Sys2Proof.Machine
end

