-- ==== Sys2Proof/Machine/Drives.lean ====
section
/-! DEFINITION. What blowers and pumps write to their slots by state, and what an admission of power does to each. -/

namespace Sys2Proof.Machine

/-! ### Blowers -/

/-- The run, speed and blow-off values of a blower's state and step (R69); none where its slots are not valid. -/
def blowerOutputs (common : Nat) (c : BlowerFields) (r : Blower) : Option (Nat × Nat × Nat) :=
  match r.state with
  | .unconfigured => none
  | .adopting => none
  | .off => some (0, 0, 1000)
  | .tripped => some (0, 0, 1000)
  | .failed => some (0, 0, 1000)
  | .lockedOut => some (0, 0, 0)
  | .starting .waitPower _ _ => some (0, 0, 1000)
  | .starting .blowoffOpen _ _ => some (0, 0, 1000)
  | .starting .retryWait _ _ => some (0, 0, 1000)
  | .starting .motorStart _ copy => some (1, copy.minSpeed, 1000)
  | .starting .ramp _ copy => some (1, copy.minSpeed, 1000)
  | .starting .loading _ copy => some (1, clampNat copy.minSpeed copy.maxSpeed common, 0)
  | .online => some (1, common, if r.surge.phase = .holding then 1000 else 0)
  | .stopping .unloading => some (1, c.seq.minSpeed, 1000)
  | .stopping .runDown => some (0, 0, 1000)

/-- A blower writes its three slots on entering a state or step (R69). -/
def State.writeBlower (s : State) (b : BlowerId) : State :=
  match (s.blower b).config with
  | none => s
  | some c =>
    match blowerOutputs s.header.commonSpeed c (s.blower b) with
    | none => ((s.invalidateSlot c.runSlot).invalidateSlot c.speedSlot).invalidateSlot c.blowoffSlot
    | some (run, speed, blowoff) =>
      ((s.writeSlot c.runSlot run true).writeSlot c.speedSlot speed true).writeSlot c.blowoffSlot blowoff true

/-- A blower enters a state or step: the record, then its slots. -/
def State.enterBlower (s : State) (b : BlowerId) (r : Blower) : State := (s.setBlower b r).writeBlower b

/-- Frame periods in a number of seconds (R70: 50 to the second). -/
def frames (seconds : Nat) : Nat := seconds * 50

/-- The budget admits a blower's START request: it enters BLOWOFF_OPEN (R72). -/
def State.blowerAdmitted (s : State) (b : BlowerId) : State :=
  let r := s.blower b
  match r.state with
  | .starting .waitPower origin copy =>
    (s.enterBlower b { r with state := .starting .blowoffOpen origin copy, power := .start,
                              stepTimer := some (frames copy.blowoffTime) }).post (startDeferredEntry b) false
  | _ => s

/-! ### Pumps -/

/-- The run and speed values of a pump's state and step (R112), with the min speed its start was presented with
(assumption log 31); none where its slots are not valid. -/
def pumpOutputs (r : Train) : Option (Nat × Nat) :=
  match r.state with
  | .unconfigured => none
  | .adopting => none
  | .off => some (0, 0)
  | .tripped => some (0, 0)
  | .lockedOut => some (0, 0)
  | .starting .waitPower => some (0, 0)
  | .starting .runConfirm => some (1, r.startSpeed)
  | .running => some (1, r.speed)

/-- A pump writes its two slots. -/
def State.writePump (s : State) (t : TrainId) : State :=
  match (s.train t).config with
  | none => s
  | some c =>
    match pumpOutputs (s.train t) with
    | none => (s.invalidateSlot c.runSlot).invalidateSlot c.speedSlot
    | some (run, speed) => (s.writeSlot c.runSlot run true).writeSlot c.speedSlot speed true

/-- RAS_LIMITED (R121): RUNNING, and the cap SET or an increase waiting longer than the limited delay in force. -/
def rasLimitedNow (s : State) (t : TrainId) : Bool :=
  let r := s.train t
  r.state == .running &&
  (s.plant.pumpCap ||
    (r.increaseTarget.isSome && decide (r.limitedDelay < r.increaseWait)))

/-- RAS_LIMITED recomputed and posted. -/
def State.postRasLimited (s : State) (t : TrainId) : State := s.post (rasLimitedEntry t) (rasLimitedNow s t)

/-- The commanded speed is the speed written to the speed slot (section 6.1); it stands where the slots are not valid. -/
def Train.commanded (r : Train) : Nat := ((pumpOutputs r).map (·.2)).getD r.speed

/-- A pump enters a state or step: a change of state is noticed (R113), the slots are written, RAS_LIMITED recomputed. -/
def State.enterPump (s : State) (t : TrainId) (r : Train) : State :=
  let changed := (s.train t).state.code != r.state.code
  let r := { r with speed := r.commanded }
  let s := (s.setTrain t r).writePump t
  (if changed then s.notify (.train t) .pumpChanged else s).postRasLimited t

/-- The pump takes a commanded speed within RUNNING and writes it (R112, R120). -/
def State.setPumpSpeed (s : State) (t : TrainId) (speed : Nat) : State :=
  (s.setTrain t { s.train t with speed := speed }).writePump t

/-- The budget admits a pump's request: a start enters RUN_CONFIRM (R114), an increase takes its target speed (R120). -/
def State.pumpAdmitted (s : State) (t : TrainId) : State :=
  let r := s.train t
  match r.state, r.config with
  | .starting .waitPower, some c =>
    s.enterPump t { r with state := .starting .runConfirm, power := .pump, speed := r.startSpeed,
                           stepTimer := some (frames c.runConfirm) }
  | .running, some _ =>
    let s := s.setTrain t { r with speed := r.increaseTarget.getD r.speed, increaseTarget := none, increaseWait := 0 }
    (s.writePump t).postRasLimited t
  | _, _ => s

end Sys2Proof.Machine
end

