-- ==== Sys2Proof/Machine/Power.lean ====
section
/-! DEFINITION. The power budget (chapter 5): commitments, the wait queue, admission, shedding. -/

namespace Sys2Proof.Machine

/-- Σ committed. -/
def Budget.committed (u : Budget) : Nat := (u.commits.map (·.kw)).sum

/-- An amount fits when Σ committed plus it does not exceed the ceiling; under UNLIMITED every amount fits. -/
def Budget.fits (u : Budget) (kw : Nat) : Bool := u.ceiling.all (fun c => decide (u.committed + kw ≤ c))

/-- Σ committed exceeds the ceiling. -/
def Budget.over (u : Budget) : Bool := !u.fits 0

/-- Headroom; absent under an UNLIMITED ceiling. -/
def Budget.headroom (u : Budget) : Option Nat := u.ceiling.map (fun c => c - u.committed)

/-- A holder's commitment entry. -/
def Budget.commitOf (u : Budget) (h : Holder) : Option Commit := u.commits.find? (fun e => e.holder = h)

/-- A holder's waiting entry. -/
def Budget.waitOf (u : Budget) (h : Holder) : Option PowerEntry := u.waits.find? (fun e => e.holder = h)

/-- A pump's commitment at a speed (R102): rated kW times 0.1 % speed over 1000, rounded up. -/
def pumpKw (c : TrainFields) (speed : Nat) : Nat := ceilThousandth (c.ratedKw * speed)

/-- The budget's record changed. -/
def State.setBudget (s : State) (u : Budget) : State := { s with budget := u }

/-- A holder's commitment changed in place. -/
def State.mapCommit (s : State) (h : Holder) (f : Commit → Commit) : State :=
  s.setBudget { s.budget with commits := s.budget.commits.map (fun e => if e.holder = h then f e else e) }

/-- A commitment appended (R97). -/
def State.appendCommit (s : State) (e : Commit) : State :=
  s.setBudget { s.budget with commits := s.budget.commits ++ [e] }

/-- An admission (R98): a START or PUMP entry appended, or a pump's increase raising its entry in place; the holder is
told in the same event. -/
def State.givePower (s : State) (h : Holder) (kw : Nat) : State :=
  match h with
  | .blower b => (s.appendCommit ⟨h, .start, kw, s.uptime⟩).blowerAdmitted b
  | .pump t =>
    (if (s.budget.commitOf h).isSome then s.mapCommit h (fun e => { e with kw := e.kw + kw })
      else s.appendCommit ⟨h, .pump, kw, s.uptime⟩).pumpAdmitted t

/-- Serving steps of the wait queue (R99), at most `fuel` of them. -/
def State.powerSteps : Nat → State → State
  | 0, s => s
  | fuel + 1, s =>
    match s.budget.waits with
    | [] => s
    | e :: rest =>
      if s.budget.shedding = false ∧ s.budget.fits e.kw then
        State.powerSteps fuel ((s.setBudget { s.budget with waits := rest }).givePower e.holder e.kw)
      else s

/-- Serving evaluated; each step removes the head. -/
def State.servePower (s : State) : State := s.powerSteps s.budget.waits.length

/-- Is the holder's entry the head of the wait queue? -/
def Budget.isHead (u : Budget) (h : Holder) : Bool := u.waits.head?.any (fun e => e.holder = h)

/-- A withdrawal (R98): a head withdrawn evaluates serving. -/
def State.withdrawPower (s : State) (h : Holder) : State :=
  if (s.budget.waitOf h).isSome then
    let head := s.budget.isHead h
    let s := s.setBudget { s.budget with waits := s.budget.waits.filter (fun e => e.holder ≠ h) }
    if head then s.servePower else s
  else s

/-- A new entry's place: after every entry of the same or a lower class number, before every higher one. -/
def placePower (e : PowerEntry) : List PowerEntry → List PowerEntry
  | [] => [e]
  | x :: xs => if e.cls < x.cls then e :: x :: xs else x :: placePower e xs

/-- A request (R98). -/
def State.requestPower (s : State) (h : Holder) (cls kw : Nat) : State :=
  if kw = 0 then s.withdrawPower h
  else
    match s.budget.waitOf h with
    | some old =>
      let s := s.setBudget { s.budget with
        waits := s.budget.waits.map (fun e => if e.holder = h then { e with kw := kw } else e) }
      if s.budget.isHead h ∧ kw < old.kw then s.servePower else s
    | none =>
      if s.budget.shedding = false ∧ s.budget.waits = [] ∧ s.budget.fits kw then s.givePower h kw
      else s.setBudget { s.budget with waits := placePower ⟨h, cls, kw, s.uptime⟩ s.budget.waits }

/-! ### Shedding (R103 to R105) -/

/-- A pump's start request presented to the budget (R114, R102): its commitment at the min speed in force, class 2. -/
def State.presentPumpStart (s : State) (t : TrainId) : State :=
  match (s.train t).config with
  | some c =>
    let low := (s.train t).minSpeed
    let s := s.setTrain t { s.train t with power := .waiting, withdrawn := false, startSpeed := low }
    s.requestPower (.pump t) 2 (pumpKw c low)
  | none => s

/-- The lift of the cap at one pump: a withdrawn start is presented again (R105, R114), and RAS_LIMITED recomputed: it is
posted also where the cap was set in the same event (R121, assumption log 33). -/
def State.liftPump (t : TrainId) (s : State) : State :=
  (if (s.train t).withdrawn ∧ (s.train t).state = .starting .waitPower then s.presentPumpStart t else s).postRasLimited t

/-- The budget returns to NORMAL (R105); the pumps present their withdrawn starts again and post the return of RAS_LIMITED
in train-number order, before serving (assumption log 33). -/
def State.endShedding (s : State) : State :=
  let s := s.setBudget { s.budget with shedding := false, shedTimer := none }
  let s := (s.post sheddingEntry false).notify .budget .shedEnd
  let s := { s with plant := { s.plant with pumpCap := false } }
  (forAll allTrains State.liftPump s).servePower

/-- The test after a release, decrease or conversion (R100): a return to NORMAL while SHEDDING, else serving. -/
def State.testPower (s : State) : State :=
  if s.budget.shedding then (if s.budget.over then s else s.endShedding) else s.servePower

/-- A pump told that its waiting request was withdrawn by shedding (R118). -/
def Train.shedWithdrawn (r : Train) : Train :=
  if r.state = .starting .waitPower then { r with power := .none, withdrawn := true }
  else { r with increaseTarget := none, increaseWait := 0 }

/-- The cap at one pump (R118): a RUNNING pump goes to its min speed in force and its entry becomes the commitment
there; so does one below it, after a min speed raised since (assumption log 31). RAS_LIMITED is posted TRUE here, also
where the caps alone end the shedding in this event (R121, assumption log 33). -/
def State.capPump (t : TrainId) (s : State) : State :=
  let r := s.train t
  (match r.state, r.config with
    | .running, some c =>
      if r.speed = r.minSpeed then s
      else (s.setPumpSpeed t r.minSpeed).mapCommit (.pump t) (fun e => { e with kw := pumpKw c r.minSpeed })
    | _, _ => s).postRasLimited t

/-- One pump's waiting entry withdrawn by shedding, and the pump told (R103 step 2). -/
def State.shedPump (t : TrainId) (s : State) : State :=
  if (s.budget.waitOf (.pump t)).isSome then
    (s.setBudget { s.budget with waits := s.budget.waits.filter (fun e => e.holder ≠ .pump t) }).setTrain t
      (s.train t).shedWithdrawn
  else s

/-- The budget enters SHEDDING (R103); the pumps are told and capped in train-number order (assumption log 33). -/
def State.enterShedding (s : State) : State :=
  let s := s.setBudget { s.budget with shedding := true }
  let s := (s.post sheddingEntry true).notify .budget .shedStart
  let s := forAll allTrains State.shedPump s
  let s := { s with plant := { s.plant with pumpCap := true } }
  let s := forAll allTrains State.capPump s
  if s.budget.over then
    if s.budget.hard then s.setBudget { s.budget with shedTimer := some s.budget.shedDelay } else s
  else s.endShedding

/-! ### Claims of the holders (R100, R101) -/

/-- A release; one that finds no entry changes nothing. -/
def State.releasePower (s : State) (h : Holder) : State :=
  if (s.budget.commitOf h).isSome then
    (s.setBudget { s.budget with commits := s.budget.commits.filter (fun e => e.holder ≠ h) }).testPower
  else s

/-- A pump's decrease to a speed (R102). -/
def State.decreasePower (s : State) (t : TrainId) (kw : Nat) : State :=
  if (s.budget.commitOf (.pump t)).isSome then
    (s.mapCommit (.pump t) (fun e => { e with kw := kw })).testPower
  else s

/-- A blower's conversion from START to RUN, in place (R74, R100). -/
def State.convertPower (s : State) (b : BlowerId) (kw : Nat) : State :=
  if (s.budget.commitOf (.blower b)).isSome then
    (s.mapCommit (.blower b) (fun e => { e with kind := .run, kw := kw })).testPower
  else s

/-- An adoption (R101): admitted without the fitting test; it may enter SHEDDING. -/
def State.adoptPower (s : State) (h : Holder) (kind : CommitKind) (kw : Nat) : State :=
  let s := s.appendCommit ⟨h, kind, kw, s.uptime⟩
  if s.budget.shedding = false ∧ s.budget.over then s.enterShedding else s

/-! ### The requests and the event -/

/-- CEILING_SET's effect (R106). -/
def State.setCeiling (s : State) (ceiling : Option Nat) (hard : Bool) (delay : Nat) : State :=
  let rose := match s.budget.ceiling, ceiling with
    | some a, some b => decide (a < b)
    | some _, none => true
    | none, _ => false
  let s := s.setBudget { s.budget with ceiling := ceiling, hard := hard, shedDelay := delay }
  if s.budget.shedding then
    if s.budget.over then
      s.setBudget { s.budget with shedTimer := if hard then some (s.budget.shedTimer.getD delay) else none }
    else s.endShedding
  else if s.budget.over then s.enterShedding
  else if rose then s.servePower else s

/-- The ceiling a CEILING_SET names: 65535 is UNLIMITED (section 5.1). -/
def ceilingOf (n : Nat) : Option Nat := if n = 65535 then none else some n

/-- CEILING_SET (R106). -/
def ceilingSetRequest (len ceiling mode shedDelay : Nat) : Request :=
  request 0x30 len [.u16 ceiling, .u8 mode, .u16 shedDelay] (fun s =>
    if within [(0, ceiling, 65535), (0, mode, 1), (10, shedDelay, 3600)] then
      let t := s.setCeiling (ceilingOf ceiling) (mode == 1) shedDelay
      .take t [optU16 t.budget.ceiling, flag t.budget.hard, .u16 t.budget.shedDelay, flag t.budget.shedding,
               .u16 t.budget.committed]
    else .refuse .range)

/-- BUDGET_READ's body (R108). -/
def budgetBody (s : State) : List WireField :=
  let u := s.budget
  [optU16 u.ceiling, flag u.hard, .u16 u.shedDelay, flag u.shedding, optU16 u.shedTimer, .u16 u.committed,
   optU16 u.headroom] ++
  wireList (u.commits.map (fun e => [.u8 e.holder.code, .u8 e.kind.code, .u16 e.kw, .u16 (s.uptime - e.admitted)])) ++
  wireList (u.waits.map (fun e => [.u8 e.holder.code, .u8 e.cls, .u16 e.kw, .u16 (s.uptime - e.posted)]))

/-- BUDGET_READ (R108). -/
def budgetReadRequest (len : Nat) : Request :=
  request 0x31 len [] (fun s => .take s (budgetBody s))

/-- POWER_ADMISSION: the budget admits the head of its wait queue while it fits (R99). -/
def execPowerAdmission (s : State) : Host.Outcome State Fault Refusal := event State.servePower s

end Sys2Proof.Machine
end

