-- ==== Sys2Proof/Machine/Blower.lean ====
section
/-! DEFINITION. The blower sequencer (chapter 4): starts, stops, trips, adoption, staging, surge guard, and the blower
requests and events. -/

namespace Sys2Proof.Machine

/-! ### Online order and common speed (R83, R90) -/

/-- The configurations of the blowers in the online order. -/
def State.onlineSeqs (s : State) : List SeqFields := s.online.filterMap (fun b => (s.blower b).config.map (·.seq))

/-- The speed range (R90); absent with the online order empty. -/
def State.speedRange (s : State) : Option (Nat × Nat) :=
  match s.onlineSeqs with
  | [] => none
  | c :: cs =>
    let lower := cs.foldl (fun m x => max m x.minSpeed) c.minSpeed
    let upper := cs.foldl (fun m x => min m x.maxSpeed) c.maxSpeed
    some (min lower upper, upper)

/-- The common speed written to one blower's speed slot: as it is when ONLINE, clamped to its copy's range in LOADING. -/
def State.writeCommon (b : BlowerId) (s : State) : State :=
  match (s.blower b).config, (s.blower b).state with
  | some c, .online => s.writeSlot c.speedSlot s.header.commonSpeed true
  | some c, .starting .loading _ copy =>
    s.writeSlot c.speedSlot (clampNat copy.minSpeed copy.maxSpeed s.header.commonSpeed) true
  | _, _ => s

/-- The range recomputed, the common speed clamped to it and written (R90). -/
def State.recomputeRange (s : State) : State :=
  let range := s.speedRange
  let h := s.header
  match range with
  | none => { s with header := { h with range := none, previousError := none } }
  | some (lo, hi) =>
    forAll allBlowers State.writeCommon
      { s with header := { h with range := range, commonSpeed := clampNat lo hi h.commonSpeed } }

/-- A blower joins the end of the online order, with its add claim (R83, R46). -/
def State.joinOrder (s : State) (b : BlowerId) (rated : Nat) : State :=
  ({ s with online := s.online ++ [b] }.addCapacity b rated).recomputeRange

/-- A blower leaves the online order. -/
def State.leaveOrder (s : State) (b : BlowerId) : State :=
  State.recomputeRange { s with online := s.online.filter (· ≠ b) }

def State.changed (s : State) (b : BlowerId) : State := s.notify (.blower b) .stateChanged

/-- The surge guard in a phase that begins now, with a time in frames. -/
def guardPhase (c : BlowerFields) (p : GuardPhase) (remaining : Nat) : Guard :=
  { phase := p, lowFlow := 0, remaining := remaining, threshold := c.seq.surgeCount }

/-! ### Starting (R71 to R75) -/

/-- The start-result record changed, where there is one. -/
def Blower.mapResult (r : Blower) (f : StartResult → StartResult) : Blower := { r with result := r.result.map f }

/-- START_DEFERRED while in WAIT_POWER with seconds waited above the copy's deferral limit (R72). -/
def State.testDeferral (s : State) (b : BlowerId) : State :=
  match (s.blower b).state with
  | .starting .waitPower _ copy =>
    if (s.blower b).result.any (fun x => decide (copy.deferralLimit < x.waited)) then
      s.post (startDeferredEntry b) true
    else s
  | _ => s

/-- Is a blower ONLINE or in any step of STARTING? -/
def BlowerState.turning : BlowerState → Bool
  | .online => true
  | .starting _ _ _ => true
  | _ => false

/-- The class of a START request (R71). -/
def State.startClass (s : State) (b : BlowerId) : Nat :=
  if allBlowers.any (fun x => decide (x ≠ b) && (s.blower x).state.turning) then 1 else 0

/-- An entry into WAIT_POWER: the attempt is counted and the START request presented (R71). START_DEFERRED is tested after
the request: a retry admitted in this event posts none (assumption log 35). -/
def State.enterWaitPower (s : State) (b : BlowerId) (origin : Origin) (copy : SeqFields) : State :=
  match (s.blower b).config with
  | none => s
  | some c =>
    let r := (s.blower b).mapResult (fun x => { x with attempts := x.attempts + 1 })
    let s := s.enterBlower b { r with state := .starting .waitPower origin copy, stepTimer := none, power := .waiting }
    (s.requestPower (.blower b) (s.startClass b) (copy.startAllowance + c.runKw)).testDeferral b

/-- A start begins (R71). -/
def State.startBlower (s : State) (b : BlowerId) (origin : Origin) : State :=
  match (s.blower b).config with
  | none => s
  | some c =>
    let s := s.setBlower b { s.blower b with result := some ⟨0, .none, 0, .inProgress⟩, foundRunning := 0 }
    (s.enterWaitPower b origin c.seq).changed b

/-- BLOWOFF_OPEN succeeds: MOTOR_START (R73). -/
def State.enterMotorStart (s : State) (b : BlowerId) (origin : Origin) (copy : SeqFields) : State :=
  s.enterBlower b { s.blower b with state := .starting .motorStart origin copy,
                                    stepTimer := some (frames copy.runConfirm) }

/-- MOTOR_START succeeds: RAMP (R74). -/
def State.enterRamp (s : State) (b : BlowerId) (origin : Origin) (copy : SeqFields) : State :=
  s.enterBlower b { s.blower b with state := .starting .ramp origin copy, stepTimer := some (frames copy.rampTime) }

/-- RAMP succeeds: LOADING, with the freeze claim (R74, R54). -/
def State.enterLoading (s : State) (b : BlowerId) (origin : Origin) (copy : SeqFields) : State :=
  (s.claimFreeze s.air.params.loadFreeze).enterBlower b
    { s.blower b with state := .starting .loading origin copy, stepTimer := some (frames copy.blowoffTime) }

/-- A blower ONLINE: its record in that state, with the surge guard IDLE. -/
def Blower.nowOnline (r : Blower) (c : BlowerFields) : Blower :=
  { r with state := .online, stepTimer := none, power := .run, foundRunning := 0, surge := guardPhase c .idle 0,
           blind := false }

/-- LOADING succeeds: ONLINE (R74). -/
def State.goOnline (s : State) (b : BlowerId) : State :=
  match (s.blower b).config with
  | none => s
  | some c =>
    let s := s.setBlower b (((s.blower b).nowOnline c).mapResult (fun x => { x with outcome := .online }))
    ((((s.convertPower b c.runKw).joinOrder b c.ratedCapacity).writeBlower b).changed b)

/-- An attempt fails (R75). START_FAILED is posted after what the release brings (assumption log 41). -/
def State.failAttempt (s : State) (b : BlowerId) (cause : FailureCause) : State :=
  match (s.blower b).state with
  | .starting _ origin copy =>
    let failed := (s.blower b).mapResult (fun x => { x with cause := cause })
    let r := { failed with power := .none }
    if r.result.any (fun x => decide (x.attempts < copy.attemptLimit)) then
      (s.enterBlower b { r with
        state := .starting .retryWait origin copy,
        stepTimer := if copy.retryDelay = 0 then none else some (frames copy.retryDelay) }).releasePower (.blower b)
    else
      let r := r.mapResult (fun x => { x with outcome := .failed })
      let s := (s.enterBlower b { r with state := .failed, stepTimer := none }).releasePower (.blower b)
      ((s.post (startFailedEntry b) true).notify (.blower b) .startFailed).changed b
  | _ => s

/-! ### Running and stopping (R76 to R79) -/

/-- An entry into OFF but for its notice (R80). -/
def State.turnOff (s : State) (b : BlowerId) : State :=
  s.enterBlower b { s.blower b with state := .off, stepTimer := none, foundRunning := 0, power := .none }

/-- An entry into OFF (R80). -/
def State.enterOff (s : State) (b : BlowerId) : State := (s.turnOff b).changed b

/-- The surge guard dropped to IDLE, with the blind flag CLEAR, on leaving ONLINE (R77, R87). -/
def Blower.leaveOnline (r : Blower) : Blower := { r with surge := .cold, blind := false }

/-- A trip (R78). Its own conditions are posted after what its claims bring, SURGE first (assumption log 41). -/
def State.tripBlower (s : State) (b : BlowerId) : State :=
  let s := s.enterBlower b { (s.blower b).leaveOnline with state := .tripped, stepTimer := none, power := .none }
  let s := ((s.leaveOrder b).loseCapacity b).releasePower (.blower b)
  ((s.post (surgeEntry b) false).post (tripEntry b) true).changed b

/-- A stop from ONLINE begins (R79): with a loss claim, unless the allocator has already taken the capacity out. -/
def State.beginStop (s : State) (b : BlowerId) (loss : Bool) : State :=
  match (s.blower b).config with
  | none => s
  | some c =>
    let s := s.enterBlower b { (s.blower b).leaveOnline with
      state := .stopping .unloading, stepTimer := some (frames c.seq.blowoffTime) }
    let s := s.leaveOrder b
    ((if loss then s.loseCapacity b else s).post (surgeEntry b) false).changed b

/-- RUN_DOWN entered, on the record's stop-confirm time (R76, R79). -/
def State.enterRunDown (s : State) (b : BlowerId) : State :=
  match (s.blower b).config with
  | none => s
  | some c =>
    s.enterBlower b { s.blower b with state := .stopping .runDown, stepTimer := some (frames c.seq.stopConfirm) }

/-- The commitment is released and the blower is OFF: its motor is seen stopped (R79), or a STOP was taken in BLOWOFF_OPEN
(R76). The notices that the release brings, of a return to NORMAL and of what it serves, come before STATE_CHANGED
(assumption log 39). -/
def State.finishStop (s : State) (b : BlowerId) : State := ((s.turnOff b).releasePower (.blower b)).changed b

/-- RUN_DOWN's time ends: FAILED with NO_STOP, the commitment kept (R79). -/
def State.failStop (s : State) (b : BlowerId) : State :=
  let r := s.blower b
  let result : StartResult := match r.result with
    | some x => { x with cause := .noStop }
    | none => ⟨0, .noStop, 0, .online⟩
  let s := s.enterBlower b { r with state := .failed, stepTimer := none, result := some result }
  ((s.post (startFailedEntry b) true).notify (.blower b) .startFailed).changed b

/-- STOP taken during a start (R76). In WAIT_POWER the notices that the withdrawal brings come before STATE_CHANGED
(assumption log 39), and the serving that it brings before the return of the blower's own START_DEFERRED (log 41). -/
def State.abortStart (s : State) (b : BlowerId) (step : StartStep) : State :=
  let s := s.setBlower b ((s.blower b).mapResult (fun x => { x with outcome := .aborted }))
  match step with
  | .waitPower => (((s.turnOff b).withdrawPower (.blower b)).changed b).post (startDeferredEntry b) false
  | .blowoffOpen => s.finishStop b
  | .retryWait => s.enterOff b
  | .motorStart => s.enterRunDown b
  | .ramp => s.enterRunDown b
  | .loading => s.enterRunDown b

/-! ### Adoption (R81, R82) -/

/-- A blower found running is adopted ONLINE. -/
def State.adoptBlower (s : State) (b : BlowerId) : State :=
  match (s.blower b).config with
  | none => s
  | some c =>
    let s := (s.setBlower b ((s.blower b).nowOnline c)).adoptPower (.blower b) .run c.runKw
    ((s.joinOrder b c.ratedCapacity).writeBlower b).changed b

/-! ### Staging (R83, R85, R86, R88) -/

/-- Is a staged start under way? -/
def BlowerState.staged : BlowerState → Bool
  | .starting _ .staging _ => true
  | _ => false

/-- Stage-in wanted (R85). -/
def State.stageIn (s : State) : State :=
  if allBlowers.any (fun b => (s.blower b).state.staged) then s
  else
    match s.duty.find? (fun b => (s.blower b).state = .off) with
    | some b => s.startBlower b .staging
    | none => s

/-- The last blower in the online order offered as a voluntary withdrawal (R86). -/
def State.offerLast (s : State) : State :=
  match s.online.getLast? with
  | none => s
  | some b =>
    match s.offerWithdrawal b with
    | some s' => s'.beginStop b false
    | none => s

/-- A forced stop from the power budget (R83): the last ONLINE blower is not stopped. -/
def State.forcedStop (s : State) : State :=
  if 1 < s.online.length then
    match s.online.getLast? with
    | some b => s.beginStop b true
    | none => s
  else s

/-! ### Surge guard (R87, R88) -/

/-- The guard enters HOLDING, with the surge offer. -/
def State.surge (s : State) (b : BlowerId) : State :=
  match (s.blower b).config with
  | none => s
  | some c =>
    let s := s.enterBlower b { s.blower b with surge := guardPhase c .holding (frames c.seq.surgeHold) }
    let s := s.post (surgeEntry b) true
    if s.air.params.minOnline < s.online.length then s.offerLast else s

/-- The hold ends: WATCHING. -/
def State.endSurgeHold (s : State) (b : BlowerId) : State :=
  match (s.blower b).config with
  | none => s
  | some c => s.enterBlower b { s.blower b with surge := guardPhase c .watching (frames c.seq.surgeHold) }

/-- The watch ends: IDLE. The low-flow count is one count through WATCHING and IDLE, and stands. -/
def State.endSurgeWatch (s : State) (b : BlowerId) : State :=
  match (s.blower b).config with
  | none => s
  | some c =>
    let r := s.blower b
    (s.setBlower b { r with surge := { guardPhase c .idle 0 with lowFlow := r.surge.lowFlow } }).post (surgeEntry b) false

/-- The low-flow count at a frame update of the flow point of an ONLINE blower (R87). -/
def State.countLowFlow (s : State) (b : BlowerId) (c : BlowerFields) (flow : Option Int) : State :=
  let r := s.blower b
  if r.surge.phase = .holding then s
  else
    let low := flow.any (fun v => decide (v < (c.surgeMinFlow : Int)))
    let count := if low then heldAdd 250 r.surge.lowFlow else 0
    let s := s.setBlower b { r with surge := { r.surge with lowFlow := count } }
    if low && decide (r.surge.threshold ≤ count) then s.surge b else s

/-! ### Frame updates of a blower's points (R70) -/

/-- The blind flag at a frame update of the running feedback of an ONLINE blower (R77). -/
def State.setBlind (s : State) (b : BlowerId) (v : Bool) : State :=
  let r := s.blower b
  if r.blind = v then s else (s.setBlower b { r with blind := v }).changed b

/-- The found-running count of a blower in OFF (R82). -/
def State.countRunning (s : State) (b : BlowerId) (running : Bool) : State :=
  let r := s.blower b
  if running then
    if 4 ≤ r.foundRunning then s.adoptBlower b else s.setBlower b { r with foundRunning := r.foundRunning + 1 }
  else s.setBlower b { r with foundRunning := 0 }

/-- The running feedback's test: `sample` is absent when the point is not GOOD, else whether the motor runs. -/
def State.testRunning (s : State) (b : BlowerId) (sample : Option Bool) : State :=
  match (s.blower b).state, sample with
  | .adopting, some true => s.adoptBlower b
  | .adopting, some false => s.enterOff b
  | .off, some running => s.countRunning b running
  | .off, none => s.countRunning b false
  | .starting .motorStart origin copy, some true => s.enterRamp b origin copy
  | .starting .ramp _ _, some false => s.failAttempt b .trippedInStart
  | .starting .loading _ _, some false => s.failAttempt b .trippedInStart
  | .online, none => s.setBlind b true
  | .online, some true => s.setBlind b false
  | .online, some false => (s.setBlind b false).tripBlower b
  | .stopping _, some false => s.finishStop b
  | .failed, some false =>
    if (s.blower b).power = .none then s
    else (s.setBlower b { s.blower b with power := .none }).releasePower (.blower b)
  | _, _ => s

/-- The blow-off feedback's test. -/
def State.testBlowoff (s : State) (b : BlowerId) (opening : Option Int) : State :=
  match (s.blower b).state, opening with
  | .starting .blowoffOpen origin copy, some v => if 950 ≤ v then s.enterMotorStart b origin copy else s
  | .starting .loading _ _, some v => if v ≤ 50 then s.goOnline b else s
  | .stopping .unloading, some v => if 950 ≤ v then s.enterRunDown b else s
  | _, _ => s

/-- The flow's test. -/
def State.testFlow (s : State) (b : BlowerId) (c : BlowerFields) (flow : Option Int) : State :=
  match (s.blower b).state, flow with
  | .starting .ramp origin copy, some v => if (c.surgeMinFlow : Int) ≤ v then s.enterLoading b origin copy else s
  | .online, f => s.countLowFlow b c f
  | _, _ => s

/-- The point whose frame updates count the time of the blower's step or guard phase: the one the step waits on
(assumption log 6). -/
def timedPoint (c : BlowerFields) (r : Blower) : Option Nat :=
  match r.state with
  | .starting .blowoffOpen _ _ => some (c.blowoffPoint.getD c.runPoint)
  | .starting .loading _ _ => some (c.blowoffPoint.getD c.runPoint)
  | .stopping .unloading => some (c.blowoffPoint.getD c.runPoint)
  | .starting .motorStart _ _ => some c.runPoint
  | .starting .retryWait _ _ => some c.runPoint
  | .stopping .runDown => some c.runPoint
  | .starting .ramp _ _ => some c.flowPoint
  | .online => if r.surge.phase = .idle then none else some c.flowPoint
  | _ => none

/-- The blow-off time ends in BLOWOFF_OPEN or LOADING: success with no feedback point bound, else BLOWOFF_TIMEOUT
(R73, R74). -/
def State.endBlowoffTime (s : State) (b : BlowerId) (c : BlowerFields) : State :=
  match (s.blower b).state with
  | .starting .blowoffOpen origin copy =>
    if c.blowoffPoint.isSome then s.failAttempt b .blowoffTimeout else s.enterMotorStart b origin copy
  | .starting .loading _ _ => if c.blowoffPoint.isSome then s.failAttempt b .blowoffTimeout else s.goOnline b
  | _ => s

/-- A step time ends. -/
def State.endStepTime (s : State) (b : BlowerId) (c : BlowerFields) : State :=
  match (s.blower b).state with
  | .starting .blowoffOpen _ _ => s.endBlowoffTime b c
  | .starting .loading _ _ => s.endBlowoffTime b c
  | .starting .motorStart _ _ => s.failAttempt b .noRunFeedback
  | .starting .ramp _ _ => s.failAttempt b .rampTimeout
  | .starting .retryWait _ _ => s.setBlower b { s.blower b with stepTimer := none }
  | .stopping .unloading => s.enterRunDown b
  | .stopping .runDown => s.failStop b
  | _ => s

/-- One frame period counted off the step time, or off the guard's time. -/
def State.countBlowerTime (s : State) (b : BlowerId) (c : BlowerFields) : State :=
  let r := s.blower b
  if r.state = .online then
    if r.surge.remaining ≤ 1 then
      if r.surge.phase = .holding then s.endSurgeHold b else s.endSurgeWatch b
    else s.setBlower b { r with surge := { r.surge with remaining := r.surge.remaining - 1 } }
  else
    match r.stepTimer with
    | some n => if n ≤ 1 then s.endStepTime b c else s.setBlower b { r with stepTimer := some (n - 1) }
    | none => s

/-- Does the blower wait to retry? -/
def BlowerState.retrying : BlowerState → Bool
  | .starting .retryWait _ _ => true
  | _ => false

/-- RETRY_WAIT ends when its delay is over and the motor is seen stopped (R75). -/
def State.testRetry (s : State) (b : BlowerId) (sample : Option Bool) : State :=
  match (s.blower b).state with
  | .starting .retryWait origin copy =>
    if (s.blower b).stepTimer = none ∧ sample = some false then s.enterWaitPower b origin copy else s
  | _ => s

/-- The motor's sample: absent when the point is not GOOD, else whether it reports running. -/
def State.runSample (s : State) (p : Nat) : Option Bool := (s.goodValue p).map (fun v => v != 0)

/-- The frame updates a judgment of a hub brings a blower: the tests in their order, then the time the update counts
off a step or phase that stood before the judgment (R70); the sample that failed an attempt is not the one that ends its
RETRY_WAIT. `before` is the state before the judgment. A blower that the release of a lower-numbered one admits in the
judgment is tested on its blow-off sample at once, that of a higher-numbered one at the next update (assumption log 33). -/
def State.blowerFrame (h : HubId) (before : State) (b : BlowerId) (s : State) : State :=
  match (s.blower b).config with
  | none => s
  | some c =>
    let old := before.blower b
    let sample := s.runSample c.runPoint
    let s := if onHub h c.runPoint then s.testRunning b sample else s
    let s := if c.blowoffPoint.any (onHub h) then s.testBlowoff b (c.blowoffPoint.bind s.goodValue) else s
    let s := if onHub h c.flowPoint then s.testFlow b c (s.goodValue c.flowPoint) else s
    let r := s.blower b
    if r.state = old.state ∧ r.surge.phase = old.surge.phase then
      let s := if (timedPoint c r).any (onHub h) then s.countBlowerTime b c else s
      if old.state.retrying && onHub h c.runPoint then s.testRetry b sample else s
    else s

/-- One more second waited in WAIT_POWER (R72), held at 65535 (assumption log 35). -/
def Blower.waitSecond (r : Blower) : Blower :=
  match r.state with
  | .starting .waitPower _ _ => r.mapResult (fun x => { x with waited := heldAdd 65535 x.waited })
  | _ => r

/-! ### The requests -/

/-- May a blower in this state take a structural change (R68)? -/
def Blower.takesStructure (r : Blower) : Bool :=
  match r.state with
  | .unconfigured => true
  | .adopting => true
  | .off => true
  | .tripped => true
  | .lockedOut => true
  | .failed => r.power == .none
  | _ => false

/-- The blower's slots, each with its claimant. -/
def blowerSlots (b : BlowerId) (f : BlowerFields) : List (Nat × Claimant) :=
  [(f.runSlot, .blowerRun b), (f.speedSlot, .blowerSpeed b), (f.blowoffSlot, .blowerBlowoff b)]

/-- Slots released and claimed by a configuration request that is taken (R174). -/
def State.reclaim (s : State) (old new : List (Nat × Claimant)) : State :=
  let s := forAll old (fun x s => s.releaseSlot x.1) s
  forAll new (fun x s => s.claimSlot x.1 x.2) s

/-- BLOWER_SET's effect once every check has passed (R68, R69, R90). A change of one slot releases and claims all three
(assumption log 33). -/
def State.takeBlowerSet (s : State) (b : BlowerId) (f : BlowerFields) : State :=
  let r := s.blower b
  let old := (r.config.map (blowerSlots b)).getD []
  let new := blowerSlots b f
  let speeds := r.config.any (fun g => g.seq.minSpeed != f.seq.minSpeed || g.seq.maxSpeed != f.seq.maxSpeed)
  let s := s.setBlower b { r with config := some f,
                                  state := if r.state = .unconfigured then .adopting else r.state }
  let s := if old = new then s else (s.reclaim old new).writeBlower b
  let s := s.suppressBlower b (r.state = .lockedOut)
  if speeds && s.online.contains b then s.recomputeRange else s

/-- BLOWER_SET (R68). -/
def blowerSetRequest (len blower : Nat) (f : BlowerFields) : Request :=
  request 0x28 len (.u8 blower :: f.wire) (fun s => forObject 6 blower fun b =>
    let r := s.blower b
    if !f.inRange then .refuse .range
    else if r.config.any (fun g => !f.sameStructure g) && !r.takesStructure then .refuse .state
    else if (s.pointAt f.runPoint).kind == .analog || (s.pointAt f.flowPoint).kind == .discrete ||
        f.blowoffPoint.any (fun p => (s.pointAt p).kind == .discrete) ||
        (blowerSlots b f).any (fun x => !s.slotFree x.1 x.2) then .refuse .conflict
    else
      let t := s.takeBlowerSet b f
      .take t [.u8 (t.blower b).state.code])

/-- A command taken: the state after it. -/
def tookBlower (b : BlowerId) (t : State) : Verdict := .take t [.u8 (t.blower b).state.code]

/-- START (R80, R71). -/
def blowerStart (s : State) (b : BlowerId) : Verdict :=
  if (s.blower b).state = .off then tookBlower b (s.startBlower b .command) else .refuse .state

/-- STOP (R80, R76, R79). -/
def blowerStop (s : State) (b : BlowerId) : Verdict :=
  match (s.blower b).state with
  | .adopting => .refuse .state
  | .starting step _ _ => tookBlower b (s.abortStart b step)
  | .online => tookBlower b (s.beginStop b true)
  | _ => tookBlower b s

/-- RESET (R80). -/
def blowerReset (s : State) (b : BlowerId) : Verdict :=
  match (s.blower b).state with
  | .tripped => tookBlower b ((s.enterOff b).post (tripEntry b) false)
  | .failed =>
    if (s.blower b).power = .none then tookBlower b ((s.enterOff b).post (startFailedEntry b) false)
    else .refuse .state
  | _ => .refuse .state

/-- May LOCKOUT be taken (R80)? -/
def Blower.lockable (r : Blower) : Bool :=
  match r.state with
  | .off => true
  | .tripped => true
  | .failed => r.power == .none
  | _ => false

/-- LOCKOUT (R80). The conditions are posted FALSE in entry-number order (assumption log 41). -/
def blowerLockout (s : State) (b : BlowerId) : Verdict :=
  if (s.blower b).lockable then
    let s := s.enterBlower b { s.blower b with state := .lockedOut, stepTimer := none, foundRunning := 0 }
    let s := forAll (blowerEntries b) (fun e s => s.post e false) s
    tookBlower b ((s.changed b).suppressBlower b true)
  else .refuse .state

/-- UNLOCK (R80). -/
def blowerUnlock (s : State) (b : BlowerId) : Verdict :=
  if (s.blower b).state = .lockedOut then tookBlower b ((s.enterOff b).suppressBlower b false) else .refuse .state

/-- BLOWER_COMMAND with one of its command codes (R80): an unknown code is refused RANGE. -/
def blowerCommand (code : Nat) (s : State) (b : BlowerId) : Verdict :=
  if 4 < code then .refuse .range
  else if (s.blower b).state = .unconfigured then .refuse .unconfigured
  else match code with
    | 0 => blowerStart s b
    | 1 => blowerStop s b
    | 2 => blowerReset s b
    | 3 => blowerLockout s b
    | _ => blowerUnlock s b

/-- A BLOWER_COMMAND request with this command code. -/
def blowerRequest (code len blower : Nat) : Request :=
  request 0x29 len [.u8 blower, .u8 code] (fun s => forObject 6 blower (blowerCommand code s))

/-- DUTY_SET (R84). -/
def dutySetRequest (len : Nat) (duty : List Nat) : Request :=
  requestIf 0x2A len (dutyWire duty) (lengthFor len (dutyWire duty) && decide (duty.length ≤ 6)) (fun s =>
    let ids := duty.filterMap (asId 6)
    if ids.length = duty.length ∧ distinct duty ∧ ids.all (fun b => (s.blower b).state != .unconfigured) then
      .take { s with duty := ids } (dutyWire duty)
    else .refuse .range)

/-- A blower's position in a list, if it is there, counted from 0 (assumption log 32). -/
def positionIn (xs : List BlowerId) (b : BlowerId) : Option Nat := xs.findIdx? (· = b)

/-- BLOWER_READ part DYNAMIC, in the order of R93. The step time, up to 180000 frames, takes four bytes (R191). The guard's
time remaining in IDLE, where no time runs, is sent as a stopped timer (assumption log 32). -/
def blowerDynamic (s : State) (b : BlowerId) : List WireField :=
  let r := s.blower b
  let seqWire (q : SeqFields) : List WireField := q.wire
  let start := match r.state with
    | .starting _ origin copy => .u8 origin.code :: seqWire copy
    | _ => optU8 none :: (seqWire ⟨0, 0, 0, 0, 0, 0, 0, 0, 0, 0, 0, 0⟩).map WireField.absent
  let result := match r.result with
    | some x => [.u8 x.attempts, .u8 x.cause.code, .u16 x.waited, .u8 x.outcome.code]
    | none => [optU8 none, optU8 none, optU16 none, optU8 none]
  [.u8 r.state.code, .u8 r.state.stepCode] ++ start ++
  [optU32 r.stepTimer, .u8 r.power.code, .u8 r.foundRunning, .u8 r.surge.phase.code, .u8 r.surge.lowFlow,
   optU16 (if r.surge.phase = .idle then none else some r.surge.remaining), flag r.blind,
   optU8 (positionIn s.duty b), optU8 (positionIn s.online b)] ++ result

/-- BLOWER_READ (R93). -/
def blowerReadRequest (len blower part : Nat) : Request :=
  request 0x2C len [.u8 blower, .u8 part] (fun s => forObject 6 blower fun b =>
    if part = 2 then .take s (blowerDynamic s b)
    else if part = 0 then
      match (s.blower b).config with
      | some c => .take s c.wire
      | none => .refuse .unconfigured
    else .refuse .range)

/-! ### The events -/

/-- STAGE_IN_WANTED: the shortfall timer reaches 0; the signal is sent and the timer restarted (R62, R85). -/
def State.shortfallEnds (s : State) : State :=
  State.stageIn { s with air := { s.air with shortfall := some s.air.params.stageInDelay } }

/-- STAGE_OUT_WANTED: the surplus timer reaches 0; the signal is sent and the timer restarted (R63, R86). -/
def State.surplusEnds (s : State) : State :=
  State.offerLast { s with air := { s.air with surplus := some s.air.params.stageOutDelay } }

/-- STAGE_IN_WANTED (R62): the shortfall timer runs and reaches 0. -/
def execStageInWanted (s : State) : Host.Outcome State Fault Refusal :=
  event (fun s => if s.air.shortfall.isSome then s.shortfallEnds else s) s

/-- STAGE_OUT_WANTED (R63): the surplus timer runs and reaches 0. -/
def execStageOutWanted (s : State) : Host.Outcome State Fault Refusal :=
  event (fun s => if s.air.surplus.isSome then s.surplusEnds else s) s

/-- An event at a configured blower. -/
def blowerEvent (b : BlowerId) (f : BlowerFields → State → State) (s : State) : Host.Outcome State Fault Refusal :=
  event (fun s => match (s.blower b).config with
    | some c => f c s
    | none => s) s

/-- BLOWOFF_TIME_END in BLOWOFF_OPEN or LOADING (R73, R74). -/
def execBlowoffTimeEnd (b : BlowerId) (s : State) : Host.Outcome State Fault Refusal :=
  blowerEvent b (fun c s => s.endBlowoffTime b c) s

/-- RUN_CONFIRM_TIMEOUT in MOTOR_START (R73). -/
def execRunConfirmTimeout (b : BlowerId) (s : State) : Host.Outcome State Fault Refusal :=
  blowerEvent b (fun _ s => match (s.blower b).state with
    | .starting .motorStart _ _ => s.failAttempt b .noRunFeedback
    | _ => s) s

/-- RAMP_TIMEOUT in RAMP (R74). -/
def execRampTimeout (b : BlowerId) (s : State) : Host.Outcome State Fault Refusal :=
  blowerEvent b (fun _ s => match (s.blower b).state with
    | .starting .ramp _ _ => s.failAttempt b .rampTimeout
    | _ => s) s

/-- RETRY_DELAY_END: the retry delay has run and the motor is seen stopped (R75). -/
def execRetryDelayEnd (b : BlowerId) (s : State) : Host.Outcome State Fault Refusal :=
  blowerEvent b (fun _ s => match (s.blower b).state with
    | .starting .retryWait origin copy => s.enterWaitPower b origin copy
    | _ => s) s

/-- START_DEFERRED: seconds waited in WAIT_POWER exceed the copy's deferral limit (R72). -/
def execStartDeferred (b : BlowerId) (s : State) : Host.Outcome State Fault Refusal :=
  blowerEvent b (fun _ s => match (s.blower b).state with
    | .starting .waitPower _ copy =>
      (s.setBlower b ((s.blower b).mapResult
        (fun x => { x with waited := max x.waited (copy.deferralLimit + 1) }))).testDeferral b
    | _ => s) s

/-- UNLOADING_TIME_END: the blow-off time ends in UNLOADING (R79). -/
def execUnloadingTimeEnd (b : BlowerId) (s : State) : Host.Outcome State Fault Refusal :=
  blowerEvent b (fun _ s => if (s.blower b).state = .stopping .unloading then s.enterRunDown b else s) s

/-- STOP_CONFIRM_TIMEOUT in RUN_DOWN (R79). -/
def execStopConfirmTimeout (b : BlowerId) (s : State) : Host.Outcome State Fault Refusal :=
  blowerEvent b (fun _ s => if (s.blower b).state = .stopping .runDown then s.failStop b else s) s

/-- BLOWER_FOUND_RUNNING: the found-running count of a blower in OFF reaches 5 (R82). -/
def execBlowerFoundRunning (b : BlowerId) (s : State) : Host.Outcome State Fault Refusal :=
  blowerEvent b (fun _ s => if (s.blower b).state = .off then s.adoptBlower b else s) s

/-- SURGE_DETECTED: the low-flow count of an ONLINE blower reaches the surge count (R87). -/
def execSurgeDetected (b : BlowerId) (s : State) : Host.Outcome State Fault Refusal :=
  blowerEvent b (fun _ s =>
    if (s.blower b).state = .online ∧ (s.blower b).surge.phase ≠ .holding then s.surge b else s) s

/-- SURGE_HOLD_END (R87). -/
def execSurgeHoldEnd (b : BlowerId) (s : State) : Host.Outcome State Fault Refusal :=
  blowerEvent b (fun _ s =>
    if (s.blower b).state = .online ∧ (s.blower b).surge.phase = .holding then s.endSurgeHold b else s) s

/-- SURGE_WATCH_END (R87). -/
def execSurgeWatchEnd (b : BlowerId) (s : State) : Host.Outcome State Fault Refusal :=
  blowerEvent b (fun _ s =>
    if (s.blower b).state = .online ∧ (s.blower b).surge.phase = .watching then s.endSurgeWatch b else s) s

/-- The shed timer reaches 0 (R104): a forced stop while Σ committed exceeds the ceiling, else the timer stops. -/
def State.shedExpires (s : State) : State :=
  if s.budget.over then
    (s.setBudget { s.budget with shedTimer := some s.budget.shedDelay }).forcedStop
  else s.setBudget { s.budget with shedTimer := none }

/-- SHED_TIMER_EXPIRY (R104): the timer runs only in SHEDDING with the mode HARD. -/
def execShedTimerExpiry (s : State) : Host.Outcome State Fault Refusal :=
  event (fun s => if s.budget.shedTimer.isSome then s.shedExpires else s) s

end Sys2Proof.Machine
end

