-- ==== Sys2Proof/Machine/Header.lean ====
section
/-! DEFINITION. The header controller (section 4.8): HEADER_SET, the pressure loop and the MOV trim, HEADER_READ. -/

namespace Sys2Proof.Machine

/-- The controller's record changed. -/
def State.setHeader (s : State) (h : Header) : State := { s with header := h }

/-- HEADER_SET's effect (R89). -/
def State.takeHeaderSet (s : State) (f : HeaderFields) : State :=
  let h := s.header
  if h.config.isNone then
    s.setHeader { h with config := some f, setpoint := f.initialSetpoint, previousError := none,
                         timer := some f.headerPeriod, movTimer := some f.movPeriod }
  else s.setHeader { h with config := some f, setpoint := clampNat f.minSetpoint f.maxSetpoint h.setpoint }

/-- HEADER_SET (R89). -/
def headerSetRequest (len : Nat) (f : HeaderFields) : Request :=
  request 0x2B len f.wire (fun s =>
    if !f.inRange then .refuse .range
    else if (s.pointAt f.pressurePoint).kind == .discrete then .refuse .conflict
    else
      let t := s.takeHeaderSet f
      .take t (f.wire ++ [.u16 t.header.setpoint]))

/-- The pressure loop in velocity form (R91), over the common denominator 100 Ti, rounded once. -/
def loopSpeed (f : HeaderFields) (h : Header) (error : Int) : Int :=
  let change : Int := match h.previousError with
    | some p => error - p
    | none => 0
  roundDiv ((h.commonSpeed : Int) * (100 * f.speedTi) + f.speedKp * change * f.speedTi +
    f.speedKp * f.headerPeriod * error) (100 * f.speedTi)

/-- The loop's run at a header period (R91). -/
def State.runLoop (s : State) (f : HeaderFields) : State :=
  let h := s.header
  match h.range with
  | none => s
  | some (lo, hi) =>
    match s.goodValue f.pressurePoint with
    | some pressure =>
      let error := (h.setpoint : Int) - pressure
      forAll allBlowers State.writeCommon
        (s.setHeader { h with commonSpeed := clampNat lo hi (loopSpeed f h error), previousError := some error })
    | none => forAll allBlowers State.writeCommon (s.setHeader { h with previousError := none })

/-- HEADER_LOW (R91). -/
def headerLowNow (s : State) (f : HeaderFields) : Bool :=
  !s.online.isEmpty && (s.goodValue f.pressurePoint).any (fun v => decide (v < (f.headerLowLimit : Int)))

/-- The header period timer expires (R91). -/
def State.headerPeriod (s : State) : State :=
  match s.header.config with
  | none => s
  | some f =>
    let s := s.setHeader { s.header with timer := some f.headerPeriod }
    (if s.online.isEmpty then s else s.runLoop f).post headerLowEntry (headerLowNow s f)

/-- The most-open valve: the largest valve command among lanes in AUTO (R92). -/
def State.mostOpen (s : State) : Option Nat :=
  ((allLanes.filter (fun l => (s.lane l).mode = .auto)).map (fun l => (s.lane l).valveCommand)).max?

/-- The setpoint after the MOV trim (R92). -/
def trimmedSetpoint (f : HeaderFields) (setpoint : Nat) : Option Nat → Nat
  | none => setpoint
  | some mov =>
    if f.movHigh < mov then clampNat f.minSetpoint f.maxSetpoint ((setpoint : Int) + f.movStep)
    else if mov < f.movLow then clampNat f.minSetpoint f.maxSetpoint ((setpoint : Int) - f.movStep)
    else setpoint

/-- The MOV period timer expires (R92). -/
def State.movPeriod (s : State) : State :=
  match s.header.config with
  | none => s
  | some f =>
    s.setHeader { s.header with movTimer := some f.movPeriod, lastMov := s.mostOpen,
                                setpoint := trimmedSetpoint f s.header.setpoint s.mostOpen }

/-- HEADER_READ's body (R94). -/
def headerBody (s : State) : List WireField :=
  let h := s.header
  let wireOf (f : HeaderFields) : List WireField := f.wire
  let fields := match h.config with
    | some f => flag true :: wireOf f
    | none => flag false :: (wireOf ⟨0, 0, 0, 0, 0, 0, 0, 0, 0, 0, 0, 0⟩).map WireField.absent
  fields ++
  [.u16 h.setpoint, .u16 h.commonSpeed, optI32 h.previousError, optU16 (h.range.map (·.1)), optU16 (h.range.map (·.2)),
   optU16 h.lastMov] ++ s.pointWire (h.config.map (·.pressurePoint)) ++
  [optU16 h.timer, optU16 h.movTimer, flag (s.entry headerLowEntry).condition] ++
  wireList (s.online.map (fun b => [.u8 b.val])) ++ wireList (s.duty.map (fun b => [.u8 b.val]))

/-- HEADER_READ (R94). -/
def headerReadRequest (len : Nat) : Request :=
  request 0x2D len [] (fun s => .take s (headerBody s))

/-- HEADER_PERIOD (R91). -/
def execHeaderPeriod (s : State) : Host.Outcome State Fault Refusal := event State.headerPeriod s

/-- MOV_PERIOD (R92). -/
def execMovPeriod (s : State) : Host.Outcome State Fault Refusal := event State.movPeriod s

end Sys2Proof.Machine
end

