-- ==== Sys2Proof/Machine/Pacing.lean ====
section
/-! DEFINITION. Flow pacing (chapter 6): trains and their RAS pumps, pacing periods, the blanket boost, the plant flow
state. -/

namespace Sys2Proof.Machine

/-! ### Pumps leaving work (R113, R115, R116) -/

/-- A pump's record with no request waiting and nothing held at the budget. -/
def Train.idlePower (r : Train) (state : PumpState) : Train :=
  { r with state := state, stepTimer := none, power := .none, withdrawn := false, increaseTarget := none,
           increaseWait := 0 }

/-- An entry into OFF sets the found-running count to 0 (R113). -/
def State.pumpOff (s : State) (t : TrainId) : State :=
  s.enterPump t { (s.train t).idlePower .off with foundRunning := 0 }

/-- An entry into TRIPPED posts RAS_TRIP true (R114, R116). -/
def State.pumpTripped (s : State) (t : TrainId) : State :=
  (s.enterPump t ((s.train t).idlePower .tripped)).post (rasTripEntry t) true

/-- A waiting increase withdrawn by the pump: the target absent and the wait 0 (R120, R121). RAS_LIMITED is posted after the
serving that the withdrawal brings (assumption log 41). -/
def State.withdrawIncrease (s : State) (t : TrainId) : State :=
  let s := s.setTrain t { s.train t with increaseTarget := none, increaseWait := 0 }
  (s.withdrawPower (.pump t)).postRasLimited t

/-- The run-confirm time ends (R114). -/
def State.failPumpStart (s : State) (t : TrainId) : State := (s.releasePower (.pump t)).pumpTripped t

/-- A running feedback sample of 0 while RUNNING (R116). -/
def State.tripPump (s : State) (t : TrainId) : State :=
  ((s.withdrawIncrease t).releasePower (.pump t)).pumpTripped t

/-- A stop by command (R115). -/
def State.stopPump (s : State) (t : TrainId) : State :=
  match (s.train t).state with
  | .starting .waitPower => (s.withdrawPower (.pump t)).pumpOff t
  | .starting .runConfirm => (s.releasePower (.pump t)).pumpOff t
  | .running => ((s.withdrawIncrease t).releasePower (.pump t)).pumpOff t
  | _ => s

/-! ### Starting and adoption (R114, R117) -/

/-- A start: WAIT_POWER, and the class 2 request for the commitment at min speed (R114). -/
def State.startPump (s : State) (t : TrainId) : State :=
  (s.enterPump t { (s.train t).idlePower (.starting .waitPower) with power := .waiting }).presentPumpStart t

/-- A commanded speed taken at once, with the commitment at it presented to the budget as a decrease (R102, R120). -/
def State.takeSpeed (s : State) (t : TrainId) (c : TrainFields) (speed : Nat) : State :=
  (s.setPumpSpeed t speed).decreasePower t (pumpKw c speed)

/-- While the cap is SET a pump that has entered RUNNING runs at the min speed in force (R118, assumption log 31). -/
def State.runCapped (s : State) (t : TrainId) : State :=
  match (s.train t).config with
  | some c =>
    if s.plant.pumpCap && (s.train t).speed != (s.train t).minSpeed then s.takeSpeed t c (s.train t).minSpeed else s
  | none => s

/-- The confirm test passes: RUNNING (R114). -/
def State.pumpConfirmed (s : State) (t : TrainId) : State :=
  (s.enterPump t { s.train t with state := .running, stepTimer := none, increaseTarget := none, increaseWait := 0 }).runCapped t

/-- A pump seen running is adopted at its min speed (R117). -/
def State.adoptPump (s : State) (t : TrainId) : State :=
  match (s.train t).config with
  | none => s
  | some c =>
    let low := (s.train t).minSpeed
    let s := s.setTrain t { s.train t with speed := low, power := .pump }
    (s.adoptPower (.pump t) .pump (pumpKw c low)).pumpConfirmed t

/-- The found-running count reaches 5 (R117). Only an entry into OFF and the samples in OFF set the count (R113, R117), so
it stands at 5 in the pump that was found running. -/
def State.pumpFoundRunning (s : State) (t : TrainId) : State :=
  (s.setTrain t { s.train t with foundRunning := 5 }).adoptPump t

/-- The found-running count of a pump in OFF (R117). -/
def State.countPumpRunning (s : State) (t : TrainId) (running : Bool) : State :=
  let r := s.train t
  if running then
    if 4 ≤ r.foundRunning then s.pumpFoundRunning t else s.setTrain t { r with foundRunning := r.foundRunning + 1 }
  else s.setTrain t { r with foundRunning := 0 }

/-- The running feedback's test at a frame update; `sample` is absent when the point is not GOOD. -/
def State.testPump (s : State) (t : TrainId) (sample : Option Bool) : State :=
  match (s.train t).state, sample with
  | .adopting, some true => s.adoptPump t
  | .adopting, some false => s.pumpOff t
  | .off, some running => s.countPumpRunning t running
  | .off, none => s.countPumpRunning t false
  | .starting .runConfirm, some true => s.pumpConfirmed t
  | .running, some false => s.tripPump t
  | _, _ => s

/-- One frame period counted off the run-confirm time. -/
def State.countPumpTime (s : State) (t : TrainId) : State :=
  let r := s.train t
  match r.state, r.stepTimer with
  | .starting .runConfirm, some n =>
    if n ≤ 1 then s.failPumpStart t else s.setTrain t { r with stepTimer := some (n - 1) }
  | _, _ => s

/-- A frame update of a pump's running point on a judged hub: the test first, then the time of a RUN_CONFIRM that stood
before the judgment (R114). A pump admitted in the judgment itself is tested on its sample at once (assumption log 33). -/
def State.pumpFrame (h : HubId) (before : State) (t : TrainId) (s : State) : State :=
  match (s.train t).config with
  | none => s
  | some c =>
    if onHub h c.runPoint then
      let s := s.testPump t (s.runSample c.runPoint)
      if (before.train t).state = .starting .runConfirm then s.countPumpTime t else s
    else s

/-! ### The pacing period (R119 to R122) -/

/-- The boost changed, with its condition. -/
def State.setBoost (s : State) (t : TrainId) (v : Bool) : State :=
  (s.setTrain t { s.train t with boost := v }).post (blanketHighEntry t) v

/-- The blanket evaluation (R122). -/
def State.evaluateBlanket (s : State) (t : TrainId) (c : TrainFields) : State :=
  match c.blanketPoint.bind s.goodValue with
  | none => s
  | some v =>
    let r := s.train t
    let run := if (c.blanketHigh : Int) < v then heldAdd 3 r.blanketRun else 0
    let s := s.setTrain t { r with blanketRun := run }
    if run = 3 ∧ r.boost = false then s.setBoost t true
    else if r.boost ∧ v < (c.blanketHigh : Int) - c.blanketHysteresis then s.setBoost t false
    else s

/-- Every lane of the set is out of work (R119). -/
def lanesIdle (s : State) (c : TrainFields) : Bool :=
  (c.lanes.filterMap (asId 12)).all (fun l => (s.lane l).mode.suppressing)

/-- The ratio in use, in percent (R119). -/
def ratioNow (s : State) (t : TrainId) (c : TrainFields) : Nat :=
  (if s.plant.storm then c.stormRatio else c.normalRatio) + (if (s.train t).boost then c.blanketBoost else 0)

/-- The RAS setpoint of a pacing period (R119); absent when the period ends there. -/
def rasSetpointNow (s : State) (t : TrainId) (c : TrainFields) : Option Nat :=
  if lanesIdle s c then some c.rasMin
  else
    match s.goodValue c.influentPoint with
    | some v => some (clampNat c.rasMin c.rasMax (roundDiv (ratioNow s t c * v) 100))
    | none => (s.train t).rasSetpoint

/-- The speed target (R120). -/
def speedTarget (s : State) (t : TrainId) (c : TrainFields) (setpoint : Nat) (flow : Int) : Nat :=
  if s.plant.pumpCap then c.minSpeed
  else clampNat c.minSpeed c.maxSpeed
    (roundDiv (((s.train t).speed : Int) * 100 + c.speedGain * ((setpoint : Int) - flow)) 100)

/-- A target above the commanded speed: the increase is presented, or the waiting one replaced (R120, R102). An amount of
0 is a withdrawal (R98). -/
def State.requestIncrease (s : State) (t : TrainId) (c : TrainFields) (target : Nat) : State :=
  let amount := pumpKw c target - ((s.budget.commitOf (.pump t)).map (·.kw)).getD 0
  if amount = 0 then s.withdrawIncrease t
  else
    let r := s.train t
    let wait := if r.increaseTarget.isSome then r.increaseWait else 0
    let s := s.setTrain t { r with increaseTarget := some target, increaseWait := wait }
    (s.requestPower (.pump t) 2 amount).postRasLimited t

/-- The pump acts on its speed target (R120). While the cap is SET no pump posts an increase (R118): one below its min
speed, after a min speed raised since, keeps its speed (assumption log 31). -/
def State.pursueSpeed (s : State) (t : TrainId) (c : TrainFields) (target : Nat) : State :=
  if target < (s.train t).speed then (s.withdrawIncrease t).takeSpeed t c target
  else if target = (s.train t).speed then s.withdrawIncrease t
  else if s.plant.pumpCap then s
  else s.requestIncrease t c target

/-- The pacing fields that are read between pacing periods taken into force (R111). -/
def Train.takePacing (r : Train) (c : TrainFields) : Train :=
  { r with minSpeed := c.minSpeed, limitedDelay := c.limitedDelay }

/-- The pacing timer expires (R112, R119, R120): the timer restarted, the pacing fields taken into force. -/
def State.pacingPeriod (s : State) (t : TrainId) : State :=
  match (s.train t).config with
  | none => s
  | some c =>
    let s := s.setTrain t ({ s.train t with timer := some c.pacingPeriod }.takePacing c)
    let s := s.evaluateBlanket t c
    if (s.train t).state = .running then
      match rasSetpointNow s t c with
      | none => s
      | some setpoint =>
        let s := s.setTrain t { s.train t with rasSetpoint := some setpoint }
        match s.goodValue c.rasFlowPoint with
        | none => s
        | some flow => s.pursueSpeed t c (speedTarget s t c setpoint flow)
    else s

/-- A second of uptime at a pump: a waiting increase counts it, held at 65535 (assumption log 35), and RAS_LIMITED is
recomputed (R121). -/
def State.pumpSecond (t : TrainId) (s : State) : State :=
  let r := s.train t
  let r := if r.increaseTarget.isSome then { r with increaseWait := heldAdd 65535 r.increaseWait } else r
  (s.setTrain t r).postRasLimited t

/-! ### The plant flow state (R124 to R127) -/

/-- The plant record changed. -/
def State.setPlant (s : State) (p : Plant) : State := { s with plant := p }

/-- Storm entry (R126). -/
def State.stormEntry (s : State) : State :=
  let s := (s.setPlant { s.plant with storm := true, runCount := 0 }).post stormEntryNo true
  let s := forAll allLanes (fun l s => s.wake l) s
  s.presentTrigger .storm (fun c => c.fields.stormTrigger == 1)

/-- Storm exit (R127). -/
def State.stormExit (s : State) : State :=
  let s := (s.setPlant { s.plant with storm := false, runCount := 0 }).post stormEntryNo false
  forAll allLanes (fun l s => s.repark l) s

/-- The run count after an evaluation, and whether it reaches its count (R124). -/
def runAfter (counts : Bool) (run limit : Nat) : Nat × Bool :=
  if counts then (run + 1, decide (limit ≤ run + 1)) else (0, false)

/-- The evaluation timer expires (R124). -/
def State.evaluateStorm (s : State) : State :=
  match s.plant.config with
  | none => s
  | some f =>
    let s := s.setPlant { s.plant with timer := some f.evalPeriod }
    if s.plant.force = .auto then
      match s.goodValue f.influentPoint with
      | none => s
      | some v =>
        let (run, reached) :=
          if s.plant.storm then runAfter (decide (v < (f.stormOut : Int))) s.plant.runCount f.outCount
          else runAfter (decide ((f.stormIn : Int) < v)) s.plant.runCount f.inCount
        let t := s.setPlant { s.plant with runCount := run }
        if reached then (if s.plant.storm then t.stormExit else t.stormEntry) else t
    else s

/-- STORM_FORCE's effect (R125). -/
def State.forceStorm (s : State) (f : Force) : State :=
  let s := s.setPlant { s.plant with force := f, runCount := 0 }
  match f with
  | .storm => if s.plant.storm then s else s.stormEntry
  | .normal => if s.plant.storm then s.stormExit else s
  | .auto => s

/-! ### The requests -/

/-- A pump's slots, each with its claimant. -/
def pumpSlots (t : TrainId) (f : TrainFields) : List (Nat × Claimant) :=
  [(f.runSlot, .pumpRun t), (f.speedSlot, .pumpSpeed t)]

/-- Is a lane of the set held in the set of another train (R111)? -/
def lanesTaken (s : State) (t : TrainId) (f : TrainFields) : Bool :=
  allTrains.any (fun x => decide (x ≠ t) && (s.train x).config.any (fun g => g.lanes.any f.lanes.contains))

/-- May a pump in this state take a structural change (R111)? -/
def PumpState.takesStructure : PumpState → Bool
  | .starting _ => false
  | .running => false
  | _ => true

/-- The first TRAIN_SET taken: ADOPTING, with the pacing timer started (R112) and the pacing fields in force at once
(assumption log 31); the train's entries leave SUPPRESSED. -/
def State.firstTrainSet (s : State) (t : TrainId) (f : TrainFields) : State :=
  (s.enterPump t ({ s.train t with state := .adopting, timer := some f.pacingPeriod }.takePacing f)).suppressTrain t false

/-- TRAIN_SET's effect once every check has passed (R111, R112, R122). A change of one slot releases and claims both
(assumption log 33). -/
def State.takeTrainSet (s : State) (t : TrainId) (f : TrainFields) : State :=
  let r := s.train t
  let old := (r.config.map (pumpSlots t)).getD []
  let new := pumpSlots t f
  let s := s.setTrain t { r with config := some f }
  let s := if old = new then s else (s.reclaim old new).writePump t
  let s := if r.state = .unconfigured then s.firstTrainSet t f else s
  if f.blanketPoint.isSome then s
  else
    let s := s.setTrain t { s.train t with blanketRun := 0 }
    if (s.train t).boost then s.setBoost t false else s

/-- TRAIN_SET (R111); a frame shorter or longer than the kind allows is a wrong length (R185, R191), a lane count out of
range in a frame of an allowed length is out of range (R111, assumption log 8). -/
def trainSetRequest (len train : Nat) (f : TrainFields) : Request :=
  requestIf 0x38 len (.u8 train :: f.wire)
    (listLengthFor len (.u8 train :: f.wire) (1, f.lanes.length, 4) (34, 37)) (fun s => forObject 4 train fun t =>
      let r := s.train t
      if !f.inRange || lanesTaken s t f then .refuse .range
      else if r.config.any (fun g => !f.sameStructure g) && !r.state.takesStructure then .refuse .state
      else if (s.pointAt f.runPoint).kind == .analog || (s.pointAt f.influentPoint).kind == .discrete ||
          (s.pointAt f.rasFlowPoint).kind == .discrete ||
          f.blanketPoint.any (fun p => (s.pointAt p).kind == .discrete) ||
          (pumpSlots t f).any (fun x => !s.slotFree x.1 x.2) then .refuse .conflict
      else
        let t' := s.takeTrainSet t f
        .take t' [.u8 (t'.train t).state.code])

/-- A pump command taken: the state after it. -/
def tookPump (t : TrainId) (s : State) : Verdict := .take s [.u8 (s.train t).state.code]

/-- START (R113, R114). -/
def pumpStart (s : State) (t : TrainId) : Verdict :=
  if (s.train t).state = .off then tookPump t (s.startPump t) else .refuse .state

/-- STOP (R113, R115). -/
def pumpStop (s : State) (t : TrainId) : Verdict :=
  if (s.train t).state = .adopting then .refuse .state else tookPump t (s.stopPump t)

/-- RESET (R113). -/
def pumpReset (s : State) (t : TrainId) : Verdict :=
  if (s.train t).state = .tripped then tookPump t ((s.pumpOff t).post (rasTripEntry t) false) else .refuse .state

/-- LOCKOUT (R113). The conditions are posted FALSE in entry-number order, before the suppression flag is SET (assumption log
41). -/
def pumpLockout (s : State) (t : TrainId) : Verdict :=
  if (s.train t).state = .off ∨ (s.train t).state = .tripped then
    let s := s.enterPump t ((s.train t).idlePower .lockedOut)
    let s := forAll (trainEntries t) (fun e s => s.post e false) s
    tookPump t (s.suppressTrain t true)
  else .refuse .state

/-- UNLOCK (R113). -/
def pumpUnlock (s : State) (t : TrainId) : Verdict :=
  if (s.train t).state = .lockedOut then tookPump t ((s.pumpOff t).suppressTrain t false) else .refuse .state

/-- PUMP_COMMAND with one of its command codes (R113). -/
def pumpCommand (code : Nat) (s : State) (t : TrainId) : Verdict :=
  if 4 < code then .refuse .range
  else if (s.train t).state = .unconfigured then .refuse .unconfigured
  else match code with
    | 0 => pumpStart s t
    | 1 => pumpStop s t
    | 2 => pumpReset s t
    | 3 => pumpLockout s t
    | _ => pumpUnlock s t

/-- A PUMP_COMMAND request with this command code. -/
def pumpRequest (code len train : Nat) : Request :=
  request 0x39 len [.u8 train, .u8 code] (fun s => forObject 4 train (pumpCommand code s))

/-- STORM_SET's effect (R123). -/
def State.takeStormSet (s : State) (f : StormFields) : State :=
  s.setPlant { s.plant with
    config := some f, runCount := 0,
    timer := if s.plant.config.isNone then some f.evalPeriod else s.plant.timer }

/-- STORM_SET (R123). -/
def stormSetRequest (len : Nat) (f : StormFields) : Request :=
  request 0x3A len f.wire (fun s =>
    if !f.inRange then .refuse .range
    else if (s.pointAt f.influentPoint).kind == .discrete then .refuse .conflict
    else
      let t := s.takeStormSet f
      .take t (f.wire ++ [flag t.plant.storm, .u8 t.plant.force.code]))

/-- STORM_FORCE (R125). -/
def stormForceRequest (len force : Nat) : Request :=
  request 0x3B len [.u8 force] (fun s =>
    if 2 < force then .refuse .range
    else
      let t := s.forceStorm (Force.ofCode force)
      .take t [.u8 t.plant.force.code, flag t.plant.storm])

/-- TRAIN_READ part DYNAMIC, in the order of R128. -/
def trainDynamic (s : State) (t : TrainId) : List WireField :=
  let r := s.train t
  [.u8 r.state.code, .u8 r.state.stepCode, optU16 r.stepTimer, .u8 r.power.code, flag r.withdrawn, .u16 r.speed,
   optU16 r.increaseTarget, .u16 r.increaseWait, .u8 r.foundRunning, optU16 r.rasSetpoint, .u8 r.blanketRun,
   flag r.boost, optU16 r.timer] ++
  (trainEntries t).map (fun e => flag (s.entry e).condition) ++
  s.pointWire (r.config.map (·.influentPoint)) ++ s.pointWire (r.config.map (·.rasFlowPoint)) ++
  s.pointWire (r.config.bind (·.blanketPoint)) ++ s.pointWire (r.config.map (·.runPoint))

/-- TRAIN_READ part PLANT (R128). -/
def plantBody (s : State) : List WireField :=
  let p := s.plant
  let wireOf (f : StormFields) : List WireField := f.wire
  (match p.config with
    | some f => flag true :: wireOf f
    | none => flag false :: (wireOf ⟨0, 0, 0, 0, 0, 0⟩).map WireField.absent) ++
  [flag p.storm, .u8 p.force.code, .u8 p.runCount, optU16 p.timer, flag p.pumpCap]

/-- TRAIN_READ (R128). -/
def trainReadRequest (len train part : Nat) : Request :=
  request 0x3C len [.u8 train, .u8 part] (fun s => forObject 4 train fun t =>
    if part = 2 then .take s (trainDynamic s t)
    else if part = 3 then .take s (plantBody s)
    else if part = 0 then
      match (s.train t).config with
      | some c => .take s c.wire
      | none => .refuse .unconfigured
    else .refuse .range)

/-! ### The events -/

/-- PACING_PERIOD (R119). -/
def execPacingPeriod (t : TrainId) (s : State) : Host.Outcome State Fault Refusal := event (fun s => s.pacingPeriod t) s

/-- BLANKET_BOOST_ON: the blanket run count reaches 3 with the boost INACTIVE (R122). -/
def execBlanketBoostOn (t : TrainId) (s : State) : Host.Outcome State Fault Refusal :=
  event (fun s =>
    if (s.train t).config.any (fun c => c.blanketPoint.isSome) ∧ (s.train t).boost = false then
      (s.setTrain t { s.train t with blanketRun := 3 }).setBoost t true
    else s) s

/-- PUMP_RUN_CONFIRM_TIMEOUT in RUN_CONFIRM (R114). -/
def execPumpRunConfirmTimeout (t : TrainId) (s : State) : Host.Outcome State Fault Refusal :=
  event (fun s => if (s.train t).state = .starting .runConfirm then s.failPumpStart t else s) s

/-- PUMP_FOUND_RUNNING: the found-running count of a pump in OFF reaches 5 (R117). -/
def execPumpFoundRunning (t : TrainId) (s : State) : Host.Outcome State Fault Refusal :=
  event (fun s => if (s.train t).state = .off then s.pumpFoundRunning t else s) s

/-- RAS_LIMITED: an increase has waited longer than the limited delay (R121). -/
def execRasLimited (t : TrainId) (s : State) : Host.Outcome State Fault Refusal :=
  event (fun s => match (s.train t).config with
    | some _ =>
      if (s.train t).state = .running ∧ (s.train t).increaseTarget.isSome then
        (s.setTrain t { s.train t with
          increaseWait := max (s.train t).increaseWait ((s.train t).limitedDelay + 1) }).postRasLimited t
      else s.postRasLimited t
    | none => s) s

/-- STORM_EVALUATION (R124). -/
def execStormEvaluation (s : State) : Host.Outcome State Fault Refusal := event State.evaluateStorm s

/-- STORM_ENTRY: the run count reaches the in count, or a force (R126). -/
def execStormEntry (s : State) : Host.Outcome State Fault Refusal :=
  event (fun s => if s.plant.storm = false ∧ s.plant.force ≠ .normal then s.stormEntry else s) s

/-- STORM_EXIT: the run count reaches the out count, or a force (R127). -/
def execStormExit (s : State) : Host.Outcome State Fault Refusal :=
  event (fun s => if s.plant.storm = true ∧ s.plant.force ≠ .storm then s.stormExit else s) s

end Sys2Proof.Machine
end

