-- ==== Sys2Proof/Machine/Capture.lean ====
section
/-! DEFINITION. The capture unit (chapter 8): sampling, freezing, and the capture requests. Triggers are presented by the
shared operation of Ops. -/

namespace Sys2Proof.Machine

/-! ### Sampling and freezing (R154, R156) -/

/-- The channel freezes (R156): the interval count stops. -/
def State.freezeChannel (s : State) (k : ChannelId) : State :=
  (s.setChannel k { s.channel k with state := .frozen, intervalCount := 0, postRemaining := 0 }).notify .capture .frozen

/-- The point's value and quality as the point table holds them. -/
def Channel.sampleNow (s : State) (c : Channel) : Sample :=
  ⟨(s.pointAt c.fields.point).value, (s.pointAt c.fields.point).quality⟩

/-- The newest `n` of a list. -/
def newest {α : Type} (n : Nat) (xs : List α) : List α := xs.drop (xs.length - n)

/-- A sample is taken (R154): kept to the pre count in PRIMED, counted off in TRIGGERED. -/
def State.takeSample (s : State) (k : ChannelId) : State :=
  let c := s.channel k
  let ring := c.ring ++ [Channel.sampleNow s c]
  match c.state with
  | .primed => s.setChannel k { c with ring := newest c.fields.preCount ring, intervalCount := 0 }
  | .triggered =>
    let s := s.setChannel k { c with ring := ring, intervalCount := 0, postRemaining := c.postRemaining - 1 }
    if c.postRemaining ≤ 1 then s.freezeChannel k else s
  | _ => s

/-- A frame update of the channel's point on a judged hub (R154). -/
def State.captureFrame (h : HubId) (k : ChannelId) (s : State) : State :=
  let c := s.channel k
  if (c.state == .primed || c.state == .triggered) && onHub h c.fields.point then
    if c.fields.interval ≤ c.intervalCount + 1 then s.takeSample k
    else s.setChannel k { c with intervalCount := c.intervalCount + 1 }
  else s

/-! ### The requests -/

/-- CAPTURE_SET (R153). -/
def captureSetRequest (len channel : Nat) (f : CaptureFields) : Request :=
  request 0x50 len (.u8 channel :: f.wire) (fun s => forObject 4 channel fun k =>
    if !f.inRange then .refuse .range
    else if (s.channel k).state ≠ .idle then .refuse .state
    else .take (s.setChannel k { s.channel k with configured := true, fields := f }) f.wire)

/-- A channel emptied (R154, R158): no sample, no count, no record, the flag CLEAR. -/
def Channel.emptied (c : Channel) (state : CaptureState) : Channel :=
  { c with state := state, ring := [], intervalCount := 0, trigger := none, postRemaining := 0, missed := false }

/-- CAPTURE_ARM (R154). -/
def captureArmRequest (len channel : Nat) : Request :=
  request 0x51 len [.u8 channel] (fun s => forObject 4 channel fun k =>
    if (s.channel k).configured = false then .refuse .unconfigured
    else if (s.channel k).state ≠ .idle then .refuse .state
    else .take (s.setChannel k ((s.channel k).emptied .primed)) [.u8 CaptureState.primed.code])

/-- What a host trigger does at a channel, as a code of section 11.4: TRIGGERED, IGNORED, MISSED, NOT_ENABLED. -/
def Channel.triggerResult (c : Channel) : Nat :=
  if c.fields.hostTrigger ≠ 1 then 3
  else match c.state with
    | .primed => 0
    | .frozen => 2
    | _ => 1

/-- The host trigger at one channel (R155). -/
def State.hostTrigger (k : ChannelId) (s : State) : State :=
  if (s.channel k).fields.hostTrigger = 1 then s.setChannel k ((s.channel k).triggered .host s.uptime) else s

/-- The channels a CAPTURE_TRIGGER names: one, or ALL sent as 0xFF. -/
def triggerNames (channel : Nat) : Option (List ChannelId) :=
  if channel = 255 then some allChannels else (asId 4 channel).map (fun k => [k])

/-- CAPTURE_TRIGGER (R155): the reply gives the result at each channel named, in channel order. -/
def captureTriggerRequest (len channel : Nat) : Request :=
  request 0x52 len [.u8 channel] (fun s =>
    match triggerNames channel with
    | none => .refuse .range
    | some ks =>
      .take (forAll ks State.hostTrigger s) (wireList (ks.map (fun k => [.u8 (s.channel k).triggerResult]))))

/-- The trigger record on the wire; absent, each field absent. -/
def triggerWire : Option TriggerRecord → List WireField
  | some r => r.source.wire ++ [.u32 r.uptime, .u8 r.actualPre]
  | none => [optU8 none, optU8 none, optU32 none, optU8 none]

/-- CAPTURE_READ's status form (R157). -/
def captureStatus (c : Channel) : List WireField :=
  [.u8 c.state.code, flag c.configured] ++
  (if c.configured then c.fields.wire else c.fields.wire.map WireField.absent) ++
  [.u16 c.ring.length, .u16 c.intervalCount,
   optU16 (if c.state = .triggered then some c.postRemaining else none)] ++
  triggerWire c.trigger ++ [flag c.missed]

/-- CAPTURE_READ's samples (R157): from a ring position onward, oldest first; a sample is six bytes (section 11.5). -/
def captureSamples (c : Channel) (offset count : Nat) : List WireField :=
  triggerWire c.trigger ++ [flag c.missed, .u16 c.ring.length] ++
  wireList (((c.ring.drop offset).take count).map (fun x => [.i32 x.value, .u8 x.quality.code, .u8 0]))

/-- CAPTURE_READ (R157). -/
def captureReadRequest (len channel offset count : Nat) : Request :=
  request 0x53 len [.u8 channel, .u8 offset, .u8 count] (fun s => forObject 4 channel fun k =>
    if 255 < offset ∨ 32 < count then .refuse .range
    else if count = 0 then .take s (captureStatus (s.channel k))
    else if (s.channel k).state = .frozen then .take s (captureSamples (s.channel k) offset count)
    else .refuse .state)

/-- CAPTURE_RELEASE (R158). -/
def captureReleaseRequest (len channel : Nat) : Request :=
  request 0x54 len [.u8 channel] (fun s => forObject 4 channel fun k =>
    if (s.channel k).state = .idle then .refuse .state
    else .take (s.setChannel k ((s.channel k).emptied .idle)) [.u8 CaptureState.idle.code])

/-! ### The events -/

/-- CAPTURE_SAMPLE: the interval count reaches the interval (R154). -/
def execCaptureSample (k : ChannelId) (s : State) : Host.Outcome State Fault Refusal :=
  event (fun s => s.takeSample k) s

/-- CAPTURE_FROZEN: post remaining of a TRIGGERED channel reaches 0, in the event that takes the last sample (R156). -/
def execCaptureFrozen (k : ChannelId) (s : State) : Host.Outcome State Fault Refusal :=
  event (fun s =>
    if (s.channel k).state = .triggered then
      (s.setChannel k { s.channel k with postRemaining := 1 }).takeSample k
    else s) s

end Sys2Proof.Machine
end

