-- ==== Sys2Proof/Machine/Alarm.lean ====
section
/-! DEFINITION. The alarm unit's requests and events (chapter 7); its shared operations stand in Flags. -/

namespace Sys2Proof.Machine

/-! ### ALARM_SET and ESCALATION_SET -/

/-- The entry DISABLED (R132, priority 0). -/
def Entry.disabled (r : Entry) : Entry :=
  { r with priority := 0, state := .disabled, onTimer := none, clearTimer := none, shelf := none, stage := 0,
           escTimer := none }

/-- ALARM_SET's effect (R132, R145). -/
def State.setAlarm (s : State) (e : AlarmId) (priority onDelay offDelay : Nat) : State :=
  let old := s.entry e
  let r := { old with priority := priority, onDelay := onDelay, offDelay := offDelay }
  if priority = 0 then s.setEntry e r.disabled
  else if old.state = .disabled then
    if s.alarm.flagOf e then s.setEntry e { r with state := .suppressed }
    else
      let s := s.setEntry e { r with state := .normal }
      if r.condition then s.startOnDelay e else s
  else s.setEntry e (if priority = old.priority then r else r.retest s.alarm)

/-- ALARM_SET (R132). -/
def alarmSetRequest (len entry priority onDelay offDelay : Nat) : Request :=
  request 0x40 len [.u8 entry, .u8 priority, .u16 onDelay, .u16 offDelay] (fun s =>
    forObject 104 entry fun e =>
      if within [(0, priority, 4), (0, onDelay, 600), (0, offDelay, 600)] then
        let t := s.setAlarm e priority onDelay offDelay
        let r := t.entry e
        .take t [.u8 r.priority, .u16 r.onDelay, .u16 r.offDelay, .u8 r.state.code]
      else .refuse .range)

/-- ESCALATION_SET's effect (R146). -/
def State.setEscalation (s : State) (time threshold : Nat) : State :=
  let u := { s.alarm with escTime := time, escThreshold := threshold }
  { s with alarm := { u with entries := u.entries.map (Entry.retest u) } }

/-- ESCALATION_SET (R146). -/
def escalationSetRequest (len time threshold : Nat) : Request :=
  request 0x41 len [.u16 time, .u8 threshold] (fun s =>
    if within [(60, time, 7200), (0, threshold, 4)] then
      .take (s.setEscalation time threshold) [.u16 time, .u8 threshold]
    else .refuse .range)

/-! ### ALARM_ACK, shelving, SILENCE -/

/-- ALARM_ACK ALL: every unacknowledged entry of the active list, in its order, with the number acknowledged (R138). -/
def State.acknowledgeAll (s : State) : State × Nat :=
  s.alarm.activeList.foldl (fun (t, n) e => match t.acknowledge e with
    | some t' => (t', n + 1)
    | none => (t, n)) (s, 0)

/-- ALARM_ACK (R138); ALL is sent as 0xFF. -/
def alarmAckRequest (len entry : Nat) : Request :=
  request 0x42 len [.u8 entry] (fun s =>
    if entry = 255 then .take s.acknowledgeAll.1 [.u8 s.acknowledgeAll.2]
    else forObject 104 entry fun e =>
      match s.acknowledge e with
      | some t => .take t [.u8 (t.entry e).state.code]
      | none => .refuse .state)

/-- ALARM_SHELVE (R139). -/
def alarmShelveRequest (len entry time : Nat) : Request :=
  request 0x43 len [.u8 entry, .u32 time] (fun s => forObject 104 entry fun e =>
    if !within [(1, time, 86400)] then .refuse .range
    else if (s.entry e).state = .disabled ∨ (s.entry e).state = .suppressed then .refuse .state
    else .take (s.shelve e time) [.u8 EntryState.shelved.code, .u32 time])

/-- ALARM_UNSHELVE (R140). -/
def alarmUnshelveRequest (len entry : Nat) : Request :=
  request 0x44 len [.u8 entry] (fun s => forObject 104 entry fun e =>
    if (s.entry e).state = .shelved then
      let t := s.unshelve e
      .take t [.u8 (t.entry e).state.code]
    else .refuse .state)

/-- The most urgent priority among the entries in ACTIVE_UNACK. -/
def AlarmUnit.mostUrgent (u : AlarmUnit) : Option Nat :=
  ((u.entries.toList.filter (fun r => r.state = .activeUnack)).map (·.priority)).min?

/-- The silenced level SILENCE leaves (R143). -/
def AlarmUnit.silencedLevel (u : AlarmUnit) : Option Nat :=
  match u.mostUrgent, u.silenced with
  | none, level => level
  | some p, none => some p
  | some p, some q => some (min p q)

/-- SILENCE's effect (R143). -/
def State.silence (s : State) : State := { s with alarm := { s.alarm with silenced := s.alarm.silencedLevel } }

/-- SILENCE (R143): the reply carries the level and the horn as re-evaluated. -/
def silenceRequest (len : Nat) : Request :=
  request 0x45 len [] (fun s =>
    let u := s.silence.alarm.refresh
    .take s.silence [.u8 (u.silenced.getD 0), flag u.horn])

/-! ### Reading the unit -/

/-- What both views of ALARM_LIST_READ carry (R149). -/
def AlarmUnit.summary (u : AlarmUnit) : List WireField :=
  [.u8 u.activeList.length, .u8 (u.silenced.getD 0), flag u.horn, .u8 u.beacon.code, flag u.dialOut, .u16 u.escTime,
   .u8 u.escThreshold]

/-- An entry in the ACTIVE view. -/
def activeRow (u : AlarmUnit) (e : AlarmId) : List WireField :=
  let r := u.entries[e]
  [.u8 e.val, .u8 r.priority, .u8 r.state.code, flag r.condition, .u32 r.stamp, .u8 r.raises, .u8 r.stage]

/-- An entry in the CATALOGUE view; a timer that does not run is absent. -/
def catalogueRow (u : AlarmUnit) (e : AlarmId) : List WireField :=
  let r := u.entries[e]
  [.u8 e.val, .u8 r.priority, .u16 r.onDelay, .u16 r.offDelay, .u8 r.state.code, flag r.condition, optU16 r.onTimer,
   optU16 r.clearTimer, optU32 r.shelf, optU16 r.escTimer, .u8 r.raises, .u8 r.stage]

/-- Sixteen places of a list from a page on. -/
def pageOf {α : Type} (page : Nat) (xs : List α) : List α := (xs.drop (16 * page)).take 16

/-- ALARM_LIST_READ (R149). -/
def alarmListReadRequest (len view page : Nat) : Request :=
  request 0x46 len [.u8 view, .u8 page] (fun s =>
    if !within [(0, view, 1), (0, page, 6)] then .refuse .range
    else if view = 0 then
      .take s (wireList ((pageOf page s.alarm.activeList).map (activeRow s.alarm)) ++ s.alarm.summary)
    else .take s (wireList ((pageOf page allEntries).map (catalogueRow s.alarm)) ++ s.alarm.summary))

/-- A history record on the wire: eight bytes (section 11.5). -/
def HistoryRecord.wire (r : HistoryRecord) : List WireField :=
  [.u8 r.entry.val, .u8 r.transition.code, .u8 r.stage, .u8 0, .u32 r.uptime]

/-- The queue after its oldest records are read out, the wrapped flag clear (R148). -/
def State.drainHistory (s : State) (count : Nat) : State :=
  { s with alarm := { s.alarm with history := s.alarm.history.drop count, wrapped := false } }

/-- HISTORY_READ (R148). -/
def historyReadRequest (len count : Nat) : Request :=
  request 0x47 len [.u8 count] (fun s =>
    if within [(1, count, 8)] then
      .take (s.drainHistory count)
        (wireList ((s.alarm.history.take count).map HistoryRecord.wire) ++
          [flag s.alarm.wrapped, .u8 (s.alarm.history.drop count).length])
    else .refuse .range)

/-! ### The events -/

/-- The on-delay timer ends: the entry raises (R134). -/
def State.onDelayEnds (s : State) (e : AlarmId) : State := if (s.entry e).onTimer.isSome then s.raise e else s

/-- The clearing timer ends (R136). -/
def State.clearingTimerEnds (s : State) (e : AlarmId) : State :=
  if (s.entry e).clearTimer.isSome then s.clearingEnds e else s

/-- The shelf runs out (R140). -/
def State.shelfEnds (s : State) (e : AlarmId) : State := if (s.entry e).state = .shelved then s.unshelve e else s

/-- The escalation timer ends (R145). -/
def State.escalationEnds (s : State) (e : AlarmId) : State :=
  if (s.entry e).state = .activeUnack ∧ (s.entry e).escTimer.isSome ∧ (s.entry e).stage < 2 then s.escalate e else s

/-- ON_DELAY_END (R134). -/
def execOnDelayEnd (e : AlarmId) (s : State) : Host.Outcome State Fault Refusal := event (fun s => s.onDelayEnds e) s

/-- CLEARING_END (R136). -/
def execClearingEnd (e : AlarmId) (s : State) : Host.Outcome State Fault Refusal :=
  event (fun s => s.clearingTimerEnds e) s

/-- SHELF_END (R140). -/
def execShelfEnd (e : AlarmId) (s : State) : Host.Outcome State Fault Refusal := event (fun s => s.shelfEnds e) s

/-- ESCALATION (R145). -/
def execEscalation (e : AlarmId) (s : State) : Host.Outcome State Fault Refusal := event (fun s => s.escalationEnds e) s

end Sys2Proof.Machine
end

