-- ==== Sys2Proof/Machine/Field.lean ====
section
/-! DEFINITION. The field link and the point table (chapter 9): points and their quality, the judgment of returns, hub
requests, the service transaction, the outbound frame. -/

namespace Sys2Proof.Machine

/-! ### Points (R165 to R170) -/

/-- A point's quality, by the first case that applies (R168). -/
def Point.judge (r : Point) (present : Bool) : Quality :=
  if r.kind = .unused then .unbound
  else if present = false then .absent
  else if r.maint.isSome then .maint
  else if r.staleLimit < r.age then .stale
  else if r.kind = .analog ∧ 61500 < r.raw then .overrange
  else if r.kind = .analog ∧ r.raw < 11400 then .underrange
  else .good

/-- The scaled value of the raw value as it stands, exactly (R166). -/
def Point.scaled (r : Point) : Exact :=
  Exact.reduce (r.spanLow * 48000 + ((r.raw : Int) - 12000) * (r.spanHigh - r.spanLow)) 48000

/-- The filter state moved by a scaled sample (R169): f plus (x less f) over (N plus 1), exactly. -/
def filterStep (n : Nat) (f x : Exact) : Exact :=
  Exact.reduce ((n : Int) * f.num * x.den + x.num * f.den) (f.den * x.den * (n + 1))

/-- The value a filter state stands for, rounded once; outside the signed 32-bit range no value is stated (assumption
log 13). -/
def valueOf (f : Exact) : Int :=
  if -2147483648 ≤ f.round ∧ f.round ≤ 2147483647 then f.round else (Config.pointValueOutside f.round).toInt

/-- The point with this filter state and its value. -/
def Point.withFilter (r : Point) (f : Exact) : Point := { r with filterState := f, value := valueOf f }

/-- The value worked after the quality has been judged (R167, R170): `before` is the quality before the event. -/
def Point.work (r : Point) (before : Quality) (sampled : Bool) : Point :=
  if r.quality = .good then
    match r.kind with
    | .analog =>
      if sampled && before == .good then r.withFilter (filterStep r.filter r.filterState r.scaled)
      else if before ≠ .good then r.withFilter r.scaled
      else r
    | .discrete => if sampled then { r with value := if r.raw = 0 then 0 else 1 } else r
    | .unused => r
  else r

/-- The quality judged afresh and the value worked. -/
def Point.settle (r : Point) (present sampled : Bool) : Point :=
  Point.work { r with quality := r.judge present } r.quality sampled

/-- A frame update (R165): the sample taken, or one frame of age. -/
def Point.frame (r : Point) (present : Bool) (sample : Option (BitVec 16)) : Point :=
  match sample with
  | some raw => Point.settle { r with raw := raw.toNat, age := 0 } present true
  | none => Point.settle { r with age := heldAdd 255 r.age } present false

/-- Is the point's hub PRESENT? -/
def State.hubPresent (s : State) (p : PointId) : Bool := (s.hub (hubOfPoint p)).present

/-- The quality judged afresh at an event that brings no sample. -/
def State.rejudge (p : PointId) (s : State) : State :=
  s.setPoint p ((s.point p).settle (s.hubPresent p) false)

/-- The points of a hub, in slot order. -/
def hubPoints (h : HubId) : List (Fin 24 × PointId) :=
  (List.finRange 24).map (fun k => (k, ⟨24 * h.val + k.val, by omega⟩))

/-- The sample a GOOD frame brings an input slot, if its valid bit is set. -/
def sampleOf (frame : Option ReturnFrame) (k : Fin 24) : Option (BitVec 16) :=
  frame.bind (fun f => if f.mask[k] then some f.samples[k] else none)

/-- The frame updates of a hub's points (R165). -/
def State.updatePoints (s : State) (h : HubId) (frame : Option ReturnFrame) : State :=
  forAll (hubPoints h) (fun x s => s.setPoint x.2 ((s.point x.2).frame (s.hub h).present (sampleOf frame x.1))) s

/-! ### The hub record (R163, R164) -/

/-- The record after a judgment: `frame` is the frame of a GOOD judgment, `wrongId` a frame whose hub ID is wrong. -/
def Hub.afterJudgment (r : Hub) (frame : Option ReturnFrame) (wrongId : Bool) : Hub :=
  match frame with
  | some f =>
    let good := heldAdd 255 r.goodCount
    { r with goodCount := good, missCount := 0, wiring := false, lastMask := f.mask, judged := true,
             present := r.present || decide (2 ≤ good) }
  | none =>
    let miss := heldAdd 255 r.missCount
    { r with missCount := miss, goodCount := 0, wiring := r.wiring || wrongId, judged := true,
             present := r.present && decide (miss < 3) }

/-- A change of the hub's state reported (R163). -/
def State.reportHub (s : State) (h : HubId) : State :=
  (s.notify .link .hubChanged).post (hubEntry h) (!(s.hub h).present)

/-! ### The request latch (R175) and the service transaction (R178) -/

/-- The frame's hub request tested and latched. -/
def State.latchRequest (s : State) (h : HubId) (f : ReturnFrame) : State :=
  match HubCode.ofByte f.requestCode with
  | none => s
  | some code =>
    if (s.hub h).latch = none ∧ s.outbound.any (fun o => !o.busy[h]) then
      (s.setHub h { s.hub h with latch := some (code, f.objectIndex.toNat) }).notify .link .hubRequest
    else s

/-- The transaction enters DONE, with SERVICE_DONE posted. -/
def State.endService (s : State) (result : ServiceResult) (value : Nat) : State :=
  State.notify { s with service := { s.service with state := .done result value, inFrame := false } } .link .serviceDone

/-- A carried frame that brought no answer. -/
def State.carryService (s : State) : State :=
  let n := s.service.carried + 1
  let s := { s with service := { s.service with carried := n } }
  if 10 ≤ n then s.endService .noAnswer 65535 else s

/-- A judgment of the target hub acts on the transaction (R178); `lost` says it took the hub to ABSENT, which leaves frames
carried as it stood (assumption log 36). -/
def State.judgeService (s : State) (h : HubId) (frame : Option ReturnFrame) (lost : Bool) : State :=
  if s.service.state = .sent ∧ s.service.target = h then
    if lost then s.endService .absent 65535
    else if s.service.inFrame then
      match frame with
      | some f =>
        if f.echo.toNat = s.service.code then
          s.endService (if f.status = 0#8 then .ok else .refusedByHub) f.value.toNat
        else s.carryService
      | none => s.carryService
    else s
  else s

/-! ### The judgment of a hub (R162) -/

/-- The readers of the hub's points take their frame updates (R165): the lanes, then the blowers, then the pumps, each in
number order. R81 and R117 give number order to adoptions in one judgment; the rest of the order R165 leaves open (assumption
log 38). -/
def State.frameUpdates (s : State) (h : HubId) (before : State) : State :=
  let s := forAll allLanes (State.laneFeedback h) s
  let s := forAll allBlowers (State.blowerFrame h before) s
  forAll allTrains (State.pumpFrame h before) s

/-- A judgment: the hub record, the points, the capture channels' samples, the hub's own events, the service transaction,
then the readers of its points. R155 has a channel's sample before the triggers of the event; what else of the order after the
points the rules leave open is the model's (assumption log 38). A hub already judged in the
period is not judged again; a return before the first boundary after a cold reset is judged (log 5). -/
def State.judgeHub (s : State) (h : HubId) (frame : Option ReturnFrame) (wrongId : Bool) : State :=
  if (s.hub h).judged then s
  else
    let was := (s.hub h).present
    let s' := (s.setHub h ((s.hub h).afterJudgment frame wrongId)).updatePoints h frame
    let s' := forAll allChannels (State.captureFrame h) s'
    let changed := (s'.hub h).present != was
    let s' := if changed then s'.reportHub h else s'
    let s' := match frame with
      | some f => s'.latchRequest h f
      | none => s'
    (s'.judgeService h frame (changed && was)).frameUpdates h s

/-- A complete return frame on a line (R162): BAD for its check or its hub ID, else GOOD. -/
def State.judgeFrame (s : State) (h : HubId) (f : ReturnFrame) : State :=
  if !f.checkPasses then s.judgeHub h none false
  else if f.hubId.toNat ≠ h.val then s.judgeHub h none true
  else s.judgeHub h (some f) false

/-! ### The outbound frame (R161) -/

/-- The outbound frame assembled from the slots, the latches and the transaction. -/
def State.assemble (s : State) : Outbound :=
  { commands := s.slots.map (fun r => if r.valid then some r.value else none),
    busy := s.hubs.map (fun r => r.latch.isSome),
    service := match s.service.state with
      | .sent => some (s.service.target, s.service.code, s.service.address, s.service.value)
      | _ => none }

/-! ### The requests -/

/-- Is a point bound in a way that a kind conflicts with (R171)? -/
def boundAgainst (s : State) (p : Nat) (kind : PointKind) : Bool :=
  match kind with
  | .unused => false
  | .discrete =>
    s.lanes.toList.any (fun r => r.config.any (fun c => (LaneFields.points c).contains p)) ||
    s.blowers.toList.any (fun r => r.config.any (fun c => c.flowPoint == p || c.blowoffPoint == some p)) ||
    s.trains.toList.any (fun r =>
      r.config.any (fun c => c.influentPoint == p || c.rasFlowPoint == p || c.blanketPoint == some p)) ||
    s.header.config.any (fun c => c.pressurePoint == p) || s.plant.config.any (fun c => c.influentPoint == p)
  | .analog =>
    s.blowers.toList.any (fun r => r.config.any (fun c => c.runPoint == p)) ||
    s.trains.toList.any (fun r => r.config.any (fun c => c.runPoint == p))

/-- A point's record as a reply carries it (R173). -/
def Point.wire (r : Point) : List WireField :=
  [.u8 r.kind.code, .i32 r.spanLow, .i32 r.spanHigh, .u8 r.filter, .u8 r.staleLimit, .u16 r.raw, .i32 r.value,
   .u8 r.quality.code, .u8 r.age, optU16 r.maint]

/-- POINT_SET's effect (R171): the filter restarts whatever the quality was before. -/
def Point.configure (r : Point) (f : PointFields) (present : Bool) : Point :=
  let r := { r with kind := PointKind.ofCode f.kind, spanLow := f.spanLow, spanHigh := f.spanHigh, filter := f.filter,
                    staleLimit := f.staleLimit }
  Point.work { r with quality := r.judge present } .unbound false

/-- POINT_SET (R171). -/
def pointSetRequest (len point : Nat) (f : PointFields) : Request :=
  request 0x01 len (.u8 point :: f.wire) (fun s => forObject 96 point fun p =>
    if !f.inRange then .refuse .range
    else if boundAgainst s point (PointKind.ofCode f.kind) then .refuse .conflict
    else
      let t := s.setPoint p ((s.point p).configure f (s.hubPresent p))
      .take t (t.point p).wire)

/-- The records a POINT_READ returns, as a list (R173, R191). -/
def pointsBody (s : State) (first count : Nat) : List WireField :=
  wireList (((s.points.toList.drop first).take count).map Point.wire)

/-- POINT_READ (R173). -/
def pointReadRequest (len first count : Nat) : Request :=
  request 0x02 len [.u8 first, .u8 count] (fun s =>
    if within [(0, first, 95), (1, count, 16), (0, first + count, 96)] then
      .take s (pointsBody s first count)
    else .refuse .range)

/-- POINT_MAINT's effect (R172). -/
def State.setMaint (s : State) (p : PointId) (time : Nat) : State :=
  (s.setPoint p { s.point p with maint := if time = 0 then none else some time }).rejudge p

/-- POINT_MAINT (R172). -/
def pointMaintRequest (len point time : Nat) : Request :=
  request 0x03 len [.u8 point, .u16 time] (fun s => forObject 96 point fun p =>
    if 7200 < time then .refuse .range
    else if (s.point p).kind = .unused then .refuse .unconfigured
    else
      let t := s.setMaint p time
      .take t [.u8 (t.point p).quality.code, optU16 (t.point p).maint])

/-- A latch on the wire: code and object index; EMPTY is code 0 (R176) with its object index absent (R191). -/
def latchWire : Option (HubCode × Nat) → List WireField
  | some (code, index) => [.u8 code.code, .u8 index]
  | none => [.u8 0, optU8 none]

/-- The slots of a hub, in position order. -/
def hubSlots (h : HubId) : List SlotId := (List.finRange 12).map (fun k => ⟨12 * h.val + k.val, by omega⟩)

/-- The service transaction on the wire (R180). In IDLE its cleared fields are sent as 0 (assumption log 14). -/
def Service.wire (v : Service) : List WireField :=
  [.u8 v.state.code, .u8 v.target.val, .u8 v.code, .u16 v.address, .u16 v.value, .u8 v.carried] ++
  match v.state with
  | .done result value => [.u8 result.code, .u16 value]
  | _ => [optU8 none, optU16 none]

/-- HUB_READ's body (R180). The sample-valid mask takes three bytes, as in the return frame (section 11.6, assumption log
18). -/
def hubBody (s : State) (h : HubId) : List WireField :=
  let r := s.hub h
  [flag r.present, .u8 r.missCount, .u8 r.goodCount, flag r.wiring] ++ latchWire r.latch ++ [.u24 r.lastMask.toNat] ++
  (hubSlots h).flatMap (fun q => (s.slot q).claimant.wire ++ [.u16 (s.slot q).value, flag (s.slot q).valid]) ++
  s.service.wire

/-- HUB_READ (R180). -/
def hubReadRequest (len hub : Nat) : Request :=
  request 0x04 len [.u8 hub] (fun s => forObject 4 hub fun h => .take s (hubBody s h))

/-- HUB_REQUEST_TAKE (R176). -/
def hubRequestTakeRequest (len hub : Nat) : Request :=
  request 0x05 len [.u8 hub] (fun s => forObject 4 hub fun h =>
    .take (s.setHub h { s.hub h with latch := none }) (latchWire (s.hub h).latch))

/-- HUB_SERVICE's effect in IDLE (R177). -/
def State.startService (s : State) (h : HubId) (code address value : Nat) : State :=
  let s := { s with service := ⟨.sent, h, code, address, value, 0, false⟩ }
  if (s.hub h).present then s else s.endService .absent 65535

/-- HUB_SERVICE (R177). -/
def hubServiceRequest (len hub code address value : Nat) : Request :=
  request 0x06 len [.u8 hub, .u8 code, .u16 address, .u16 value] (fun s => forObject 4 hub fun h =>
    if !within [(1, code, 255)] then .refuse .range
    else if s.service.state ≠ .idle then .refuse .busy
    else
      let t := s.startService h code address value
      .take t [.u8 t.service.state.code])

/-- SERVICE_RESULT (R179). -/
def serviceResultRequest (len : Nat) : Request :=
  request 0x07 len [] (fun s =>
    match s.service.state with
    | .done result value =>
      .take { s with service := Service.cold }
        [.u8 s.service.target.val, .u8 s.service.code, .u16 s.service.address, .u16 s.service.value, .u8 result.code,
         .u16 value]
    | _ => .refuse .state)

/-! ### The events -/

/-- RETURN_FRAME_JUDGED: a complete return frame arrives on the line (R162). -/
def execReturnFrameJudged (line : HubId) (frame : ReturnFrame) (s : State) : Host.Outcome State Fault Refusal :=
  event (fun s => s.judgeFrame line frame) s

/-- RETURN_MISS: a period ends with no complete frame from the hub (R162). -/
def execReturnMiss (hub : HubId) (s : State) : Host.Outcome State Fault Refusal :=
  event (fun s => s.judgeHub hub none false) s

/-- A hub's record takes a new state outside a judgment's own count: its points are judged afresh. No frame comes with the
row, so that the last sample-valid mask, the latch, the mark of a judgment in the period, and the points' samples and ages
stand (assumption log 28). -/
def State.changeHub (s : State) (h : HubId) (r : Hub) : State :=
  (forAll ((hubPoints h).map (·.2)) State.rejudge (s.setHub h r)).reportHub h

/-- HUB_ABSENT_ENTERED: the miss count of a PRESENT hub reaches 3 (R163, R178). Commanded early it brings the counts there;
R163 puts the event inside a BAD or MISS judgment, and as the row does not say which, the wiring flag stands (assumption log
28). -/
def execHubAbsentEntered (h : HubId) (s : State) : Host.Outcome State Fault Refusal :=
  event (fun s =>
    let r := s.hub h
    if r.present then
      (s.changeHub h { r with present := false, missCount := max 3 r.missCount, goodCount := 0 }).judgeService h none true
    else s) s

/-- HUB_PRESENT_ENTERED: the good count of an ABSENT hub reaches 2 (R163). Commanded early it brings the counts there; R163
puts the event inside a GOOD judgment, which R164 has clear the wiring flag, so the row clears a flag that is SET: the
model's choice (assumption log 28). -/
def execHubPresentEntered (h : HubId) (s : State) : Host.Outcome State Fault Refusal :=
  event (fun s =>
    let r := s.hub h
    if r.present then s
    else s.changeHub h { r with present := true, goodCount := max 2 r.goodCount, missCount := 0, wiring := false }) s

/-- POINT_STALE: the point's age exceeds its stale limit (R168). -/
def execPointStale (p : PointId) (s : State) : Host.Outcome State Fault Refusal :=
  event (fun s =>
    State.rejudge p (s.setPoint p { s.point p with age := max (s.point p).age ((s.point p).staleLimit + 1) })) s

/-- The maintenance remaining reaches 0: absent, and the quality judged afresh (R172). -/
def State.endMaint (p : PointId) (s : State) : State :=
  if (s.point p).maint.isSome then State.rejudge p (s.setPoint p { s.point p with maint := none }) else s

/-- MAINT_WINDOW_END (R172). -/
def execMaintWindowEnd (p : PointId) (s : State) : Host.Outcome State Fault Refusal := event (State.endMaint p) s

/-- SERVICE_NO_ANSWER: frames carried reaches 10 (R178). -/
def execServiceNoAnswer (s : State) : Host.Outcome State Fault Refusal :=
  event (fun s =>
    if s.service.state = .sent then
      State.endService { s with service := { s.service with carried := 10 } } .noAnswer 65535
    else s) s

end Sys2Proof.Machine
end

