-- ==== Sys2Proof/Machine/Clock.lean ====
section
/-! DEFINITION. The frame clock and the uptime (R160, R161): what a frame period boundary and a second of uptime bring. -/

namespace Sys2Proof.Machine

/-! ### A second of uptime -/

/-- A timer in seconds, one second on. -/
def less (timer : Option Nat) : Option Nat := timer.map (· - 1)

/-- An entry's timers one second on. -/
def Entry.second (r : Entry) : Entry :=
  { r with onTimer := less r.onTimer, clearTimer := less r.clearTimer, shelf := less r.shelf, escTimer := less r.escTimer }

/-- Every timer that is counted in seconds, less the allocator's own, one second on, and the seconds that the blowers
have waited for power (R72): a start that begins in this second has waited none of it (section 4.3's example). -/
def State.countTimers (s : State) : State :=
  { s with
    alarm := { s.alarm with entries := s.alarm.entries.map Entry.second }
    points := s.points.map (fun r => { r with maint := less r.maint })
    lanes := s.lanes.map (fun r => { r with timer := less r.timer })
    header := { s.header with timer := less s.header.timer, movTimer := less s.header.movTimer }
    budget := { s.budget with shedTimer := less s.budget.shedTimer }
    blowers := s.blowers.map Blower.waitSecond
    trains := s.trains.map (fun r => { r with timer := less r.timer })
    plant := { s.plant with timer := less s.plant.timer } }

/-- The timers of an entry that have run out, the clearing timer before the escalation timer (R145). -/
def State.entrySecond (e : AlarmId) (s : State) : State :=
  let s := if (s.entry e).onTimer = some 0 then s.onDelayEnds e else s
  let s := if (s.entry e).clearTimer = some 0 then s.clearingTimerEnds e else s
  let s := if (s.entry e).shelf = some 0 then s.shelfEnds e else s
  if (s.entry e).escTimer = some 0 then s.escalationEnds e else s

/-- A maintenance window that has run out (R172). -/
def State.maintSecond (p : PointId) (s : State) : State := if (s.point p).maint = some 0 then s.endMaint p else s

/-- The shortfall timer counted down (R62). -/
def State.countShortfall (s : State) : State :=
  match s.air.shortfall with
  | none => s
  | some n => if n ≤ 1 then s.shortfallEnds else { s with air := { s.air with shortfall := some (n - 1) } }

/-- The surplus timer counted down (R63). -/
def State.countSurplus (s : State) : State :=
  match s.air.surplus with
  | none => s
  | some n => if n ≤ 1 then s.surplusEnds else { s with air := { s.air with surplus := some (n - 1) } }

/-- The allocator's second, in the order R53 gives: events one by one, each followed by the lines (R143). -/
def State.airSecond (s : State) : State :=
  s.countFreeze.refresh.testStarvation.refresh.countShortfall.refresh.countSurplus.refresh

/-- A lane period whose timer has run out (R11). -/
def State.laneSecond (l : LaneId) (s : State) : State := if (s.lane l).timer = some 0 then s.lanePeriod l else s

/-- A pacing period whose timer has run out (R112). -/
def State.trainSecond (t : TrainId) (s : State) : State := if (s.train t).timer = some 0 then s.pacingPeriod t else s

/-- The single timers that have run out: header period, MOV period. -/
def State.headerSecond (s : State) : State :=
  let s := if s.header.timer = some 0 then s.headerPeriod else s
  if s.header.movTimer = some 0 then s.movPeriod else s

/-- Objects take their turns, in number order: each turn is an event of its own, which the lines follow (R143). -/
def takeTurns {α : Type} (xs : List α) (turn : α → State → State) (s : State) : State :=
  forAll xs (fun x s => (turn x s).refresh) s

/-- The timers that have run out, and the waits past their limits, block by block (the order is assumption log 7). -/
def State.takeTimers (s : State) : State :=
  let s := takeTurns allEntries State.entrySecond s
  let s := (takeTurns allPoints State.maintSecond s).airSecond
  let s := if s.budget.shedTimer = some 0 then s.shedExpires.refresh else s
  let s := takeTurns allTrains State.pumpSecond (takeTurns allBlowers (fun b s => s.testDeferral b) s)
  let s := (takeTurns allLanes State.laneSecond s).headerSecond.refresh
  let s := takeTurns allTrains State.trainSecond s
  if s.plant.timer = some 0 then s.evaluateStorm.refresh else s

/-- The greatest uptime (R160). -/
def uptimeMax : Nat := 4294967295

/-- A second of uptime (R160): an uptime that stands at its maximum is not increased, and no second passes. -/
def State.second (s : State) : State :=
  if s.uptime < uptimeMax then (State.countTimers { s with uptime := s.uptime + 1, frameCount := 0 }).takeTimers
  else { s with frameCount := 0 }

/-! ### The frame period boundary -/

/-- One frame of the flashing beacon: 25 on, 25 off (R144). -/
def AlarmUnit.frame (u : AlarmUnit) : AlarmUnit :=
  if u.beacon = .flashing then { u with beaconFrames := (u.beaconFrames + 1) % 50 } else u

/-- The end of a frame period: one frame of the beacon has passed (assumption log 5), and a hub not judged in it is judged
MISS (R162), each judgment an event of its own. -/
def State.endPeriod (s : State) : State :=
  let s := { s with alarm := s.alarm.frame }
  let s := if s.outbound.isSome then takeTurns allHubs (fun h s => s.judgeHub h none false) s else s
  { s with hubs := s.hubs.map (fun r => { r with judged := false }) }

/-- The outbound frame assembled and sent (R161): it carries the service slot while the transaction is SENT (R178), and
a valve slot that a retry made not valid has then been sent so (R22). -/
def State.sendOutbound (s : State) : State :=
  { s with outbound := some s.assemble,
           service := { s.service with inFrame := s.service.state == .sent },
           lanes := s.lanes.map Lane.frameSent }

/-- One frame counted toward the next second; every 50th boundary is a second of uptime (R160). -/
def State.countFrame (s : State) : State :=
  if s.frameCount + 1 < 50 then { s with frameCount := s.frameCount + 1 } else s.second

/-- A frame period boundary. -/
def State.boundary (s : State) : State := s.endPeriod.sendOutbound.countFrame

/-- FRAME_PERIOD_BOUNDARY (R160, R161). -/
def execFramePeriodBoundary (s : State) : Host.Outcome State Fault Refusal := event State.boundary s

/-- UPTIME_SECOND (R160). -/
def execUptimeSecond (s : State) : Host.Outcome State Fault Refusal := event State.second s

end Sys2Proof.Machine
end

