-- ==== Sys2Proof/Machine/Restart.lean ====
section
/-! DEFINITION. The warm rules of every block and the warm restart (R190). -/

namespace Sys2Proof.Machine

/-! ### The blocks' own warm rules -/

/-- The alarm unit (R152): hub conditions keep their values, every other condition is FALSE. -/
def AlarmUnit.warmEntry (u : AlarmUnit) (e : AlarmId) : Entry :=
  let r := u.entries[e]
  { r with
    state := if r.state = .disabled then .disabled else if u.flagOf e then .suppressed else .normal
    condition := decide (96 ≤ e.val ∧ e.val < 100) && r.condition
    onTimer := none, clearTimer := none, shelf := none, stage := 0, escTimer := none }

def AlarmUnit.warm (u : AlarmUnit) : AlarmUnit :=
  { u with entries := Vector.ofFn u.warmEntry, silenced := none, horn := false, beacon := .off, beaconFrames := 0,
           dialOut := false }

/-- The allocator (R67). -/
def Air.warm (a : Air) : Air := { Air.cold with params := a.params }

/-- The power budget (R110). -/
def Budget.warm (u : Budget) : Budget := { u with shedding := false, commits := [], waits := [], shedTimer := none }

/-- The state a blower takes (R96). -/
def Blower.warmState (r : Blower) : BlowerState :=
  match r.state with
  | .unconfigured => .unconfigured
  | .lockedOut => .lockedOut
  | .tripped => .tripped
  | .failed => if r.power = .none then .failed else .adopting
  | _ => .adopting

/-- A blower (R96): a start under way is ABORTED. -/
def Blower.warm (r : Blower) : Blower :=
  let result := match r.state with
    | .starting _ _ _ => r.result.map (fun x => { x with outcome := .aborted })
    | _ => r.result
  { r with state := r.warmState, stepTimer := none, power := .none, foundRunning := 0, surge := .cold, blind := false,
           result := result }

/-- The header controller (R96). -/
def Header.warm (h : Header) : Header :=
  { h with setpoint := (h.config.map (·.initialSetpoint)).getD h.setpoint, previousError := none, range := none,
           lastMov := none, timer := h.config.map (·.headerPeriod), movTimer := h.config.map (·.movPeriod) }

/-- The state a pump takes (R130). -/
def PumpState.warm : PumpState → PumpState
  | .unconfigured => .unconfigured
  | .lockedOut => .lockedOut
  | .tripped => .tripped
  | _ => .adopting

/-- A train (R130). -/
def Train.warm (r : Train) : Train :=
  let r := { r with
    state := r.state.warm, stepTimer := none, power := .none, withdrawn := false, increaseTarget := none,
    increaseWait := 0, foundRunning := 0, rasSetpoint := none, blanketRun := 0, boost := false,
    timer := r.config.map TrainFields.pacingPeriod }
  { r with speed := r.commanded }

/-- The plant record (R130). -/
def Plant.warm (p : Plant) : Plant :=
  { p with storm := false, runCount := 0, timer := p.config.map (·.evalPeriod), pumpCap := false }

/-- A capture channel (R159). -/
def Channel.warm (c : Channel) : Channel :=
  match c.state with
  | .primed => c.emptied .idle
  | .triggered => c.emptied .idle
  | _ => c

/-- The service transaction (R182): RESTARTED out of SENT, with no notice. -/
def Service.warm (v : Service) : Service :=
  if v.state = .sent then { v with state := .done .restarted 65535, inFrame := false } else v

/-- The mode a lane takes (R27). -/
def LaneMode.warm : LaneMode → LaneMode
  | .auto => .adopting .auto
  | .manual => .adopting .manual
  | .hold ret => .adopting ret
  | m => m

/-- A lane (R27, R45). The fields R27 does not name stand (assumption log 21). -/
def Lane.warm (r : Lane) : Lane :=
  { r.clearFault with
    mode := r.mode.warm, timer := none, periodNumber := 0,
    cascaded := (r.config.map (·.doSetpoint)).getD r.cascaded, previousError := 0, demand := 0, lastValveGrant := 0,
    stalled := false, sup := r.sup.abandon, mismatchRun := 0, load := .cold, woken := false }

/-- Every block's records under its warm rule (R190, first step). -/
def State.warmRecords (s : State) : State :=
  { s with
    alarm := s.alarm.warm, air := s.air.warm, budget := s.budget.warm, online := [],
    blowers := s.blowers.map Blower.warm, header := s.header.warm, trains := s.trains.map Train.warm,
    plant := s.plant.warm, channels := s.channels.map Channel.warm, service := s.service.warm,
    lanes := s.lanes.map Lane.warm }

/-! ### The slots, the conditions and the claims -/

/-- A lane's valve slot under its warm rule (R27). -/
def State.warmValve (l : LaneId) (s : State) : State :=
  match (s.lane l).mode with
  | .outOfService => s.writeValve l 0
  | .parked => s.writeValve l 0
  | .adopting _ => s.dropValve l
  | _ => s

/-- The slots of every claimant (R182). -/
def State.warmSlots (s : State) : State :=
  let s := forAll allBlowers (fun b s => s.writeBlower b) s
  let s := forAll allTrains (fun t s => s.writePump t) s
  forAll allLanes State.warmValve s

/-- A blower's four conditions (R96), in entry-number order (assumption log 41). -/
def State.warmBlowerPosts (b : BlowerId) (s : State) : State :=
  let r := s.blower b
  (((s.post (startFailedEntry b) (r.state == .failed)).post (tripEntry b) (r.state == .tripped)).post
    (surgeEntry b) false).post (startDeferredEntry b) false

/-- A train's three conditions (R130), in entry-number order (assumption log 41). -/
def State.warmTrainPosts (t : TrainId) (s : State) : State :=
  ((s.post (rasTripEntry t) ((s.train t).state == .tripped)).post (blanketHighEntry t) false).post (rasLimitedEntry t) false

/-- A lane in ADOPTING posts its request of min air (R27). -/
def State.warmRequest (l : LaneId) (s : State) : State :=
  if (s.lane l).mode.isAdopting then s.requestAir l (s.minAir l) else s

/-- The warm restart (R190): the blocks' own rules, then what they post and claim, then the one WARM_RESTART record. The
order of the blocks is the model's (assumption log 21), and so is that of the posts: all blowers, then all trains, each in
number order (log 41). -/
def State.warmRestart (s : State) : State :=
  let s := s.warmRecords.warmSlots
  let s := forAll allTrains State.warmTrainPosts (forAll allBlowers State.warmBlowerPosts s)
  let s := forAll allLanes State.warmRequest s
  let s := if s.plant.force = .storm then s.stormEntry else s
  { s with restarting := false,
           notices := [{ source := .host, causes := Cause.warmRestart.mask, posted := s.uptime }] }

end Sys2Proof.Machine
end

