-- ==== Sys2Proof/Machine/HostLink.lean ====
section
/-! DEFINITION. The host link (chapter 10): the resets, identity, status, notices, restart. -/

namespace Sys2Proof.Machine

/-! ### Resets -/

/-- COLD_RESET: the release of the RESET pin, or the end of power-on (R189): every block at its cold values, the straps
read. -/
def execColdReset (strap1 strap0 : Bool) (s : State) : Host.Outcome State Fault Refusal :=
  .next (finish s (State.cold strap1 strap0))

/-- The lines while the RESET pin is held (R189). -/
def AlarmUnit.dark (u : AlarmUnit) : AlarmUnit :=
  { u with horn := false, beacon := .off, beaconFrames := 0, dialOut := false }

/-- RESET_PIN_ASSERTED (R189): ATTN released, the alarm lines off, a frame being received or sent lost: with the RESTART
reply on its way, that reply, and the warm restart at its end. -/
def execResetPinAsserted (s : State) : Host.Outcome State Fault Refusal :=
  .next { s with held := true, attn := false, rx := [], restarting := false,
                 reply := if s.restarting then none else s.reply, alarm := s.alarm.dark }

/-! ### Identity, status and notices (R187, R188) -/

/-- IDENTIFY's body (R188): three codes the manual does not give stand as free constants of Config, and the widths and
the one number for the valve curve points are the model's (assumption log 16); then the capacities table of the opening
file in R188's order: lanes, blowers, trains, hubs, input points, output slots, valve curve points, the air request
queue, the power commitment list, the wait queue, alarm entries, history records, notice records and sources, capture
channels and samples. -/
def identifyBody : List WireField :=
  [.u16 Config.vendorCode, .u16 Config.partCode, .u8 Config.siliconRevision, .u8 12, .u8 6, .u8 4, .u8 4, .u8 96,
   .u8 48, .u8 8, .u8 12, .u8 10, .u8 10, .u8 104, .u8 128, .u8 32, .u8 28, .u8 4, .u16 256]

/-- IDENTIFY (R188). -/
def identifyRequest (len : Nat) : Request :=
  request 0x60 len [] (fun s => .take s identifyBody)

/-- STATUS_READ's body (section 11.5). -/
def statusBody (s : State) : List WireField :=
  [.u32 s.uptime, .u32 s.baud.rate, flag s.plant.storm, .u8 s.plant.force.code, flag s.budget.shedding,
   flag s.air.short, s.air.freeze.wire, .u8 (allHubs.map (fun h => if (s.hub h).present then 2 ^ h.val else 0)).sum,
   .u8 s.notices.length, .u8 s.alarm.history.length, flag s.alarm.wrapped, .u8 (s.alarm.silenced.getD 0)]

/-- STATUS_READ (R188). -/
def statusReadRequest (len : Nat) : Request :=
  request 0x61 len [] (fun s => .take s (statusBody s))

/-- NOTICE_READ's verdict (R187): the oldest record, or EMPTY. -/
def noticeRead (s : State) : Verdict :=
  match s.notices with
  | [] => .take s [.u8 0xFF, .u8 0, .u32 0, .u8 0]
  | n :: rest => .take { s with notices := rest } [.u8 n.source.code, .u8 n.causes.toNat, .u32 n.posted, .u8 rest.length]

/-- NOTICE_READ (R187). -/
def noticeReadRequest (len : Nat) : Request :=
  request 0x62 len [] noticeRead

/-! ### Restart (R190) -/

/-- RESTART: the reply goes out first; the warm restart follows its last byte. -/
def restartRequest (len : Nat) : Request :=
  request 0x63 len [] (fun s => .take { s with restarting := true } [])

/-- WARM_RESTART: the end of the RESTART reply's last byte. -/
def execWarmRestart (s : State) : Host.Outcome State Fault Refusal :=
  event (fun s => if s.restarting then s.warmRestart else s) s

end Sys2Proof.Machine
end

