-- ==== Sys2Proof/Machine/Receive.lean ====
section
/-! DEFINITION. The host link's receiver (R184): the bytes that come in, the frames among them, the request that a complete
frame carries, and every request as it reaches the part. -/

namespace Sys2Proof.Machine

/-! ### Reading a body's fields (R191) -/

/-- The number in some bytes, least significant first. -/
def numberLE : List Byte → Nat
  | [] => 0
  | b :: bs => b.toNat + 256 * numberLE bs

/-- The number at an offset of a body, at a width; bytes past the body's end read 0 (such a body has the wrong length). -/
def fieldAt (body : List Byte) (offset width : Nat) : Nat := numberLE ((body.drop offset).take width)

/-- The numbers of a body laid out in fields of these widths. -/
def numbersOf : List Nat → List Byte → List Nat
  | [], _ => []
  | w :: ws, bs => numberLE (bs.take w) :: numbersOf ws (bs.drop w)

/-- An optional one-byte field: all ones when absent. -/
def presentU8 (n : Nat) : Option Nat := if n = 0xFF then none else some n

/-- A signed four-byte field. -/
def signed32 (n : Nat) : Int := if n < 2147483648 then n else (n : Int) - 4294967296

end Sys2Proof.Machine

namespace Sys2Proof
open Machine

/-! ### Configurations from the numbers of their fields, in the order of their layouts -/

def PointFields.ofNumbers (v : List Nat) : PointFields :=
  let n (k : Nat) : Nat := v.getD k 0
  ⟨n 0, signed32 (n 1), signed32 (n 2), n 3, n 4⟩

def LaneFields.ofNumbers (v : List Nat) : LaneFields :=
  let n (k : Nat) : Nat := v.getD k 0
  { train := presentU8 (n 0), doPoint := n 1, nh4Point := presentU8 (n 2), airflowPoint := n 3,
    feedbackPoint := presentU8 (n 4), valveSlot := n 5, minAir := n 6, maxAir := n 7, airPriority := n 8, period := n 9,
    doSetpoint := n 10, stormSetpoint := n 11, doLow := n 12, doHigh := n 13, kp := n 14, ti := n 15,
    feedForward := n 16, cascadeEnable := n 17, nh4Setpoint := n 18, cascadeGain := n 19, spLow := n 20,
    spHigh := n 21, cascadeDivider := n 22, flowGain := n 23, correctionLimit := n 24, releaseDeadband := n 25,
    mismatchTolerance := n 26, mismatchCount := n 27, stallWindow := n 28, retryLimit := n 29, valveDeadband := n 30,
    feedbackTolerance := n 31, wakeOnStorm := n 32, returnToPark := n 33, fallbackAir := n 34 }

def FaultFields.ofNumbers (v : List Nat) : FaultFields :=
  let n (k : Nat) : Nat := v.getD k 0
  ⟨n 0, n 1, n 2, n 3⟩

def AirFields.ofNumbers (v : List Nat) : AirFields :=
  let n (k : Nat) : Nat := v.getD k 0
  ⟨n 0, n 1, n 2, n 3, n 4, n 5⟩

def BlowerFields.ofNumbers (v : List Nat) : BlowerFields :=
  let n (k : Nat) : Nat := v.getD k 0
  ⟨n 0, n 1, presentU8 (n 2), n 3, n 4, n 5, n 6, n 7, n 8,
    ⟨n 9, n 10, n 11, n 12, n 13, n 14, n 15, n 16, n 17, n 18, n 19, n 20⟩⟩

def HeaderFields.ofNumbers (v : List Nat) : HeaderFields :=
  let n (k : Nat) : Nat := v.getD k 0
  ⟨n 0, n 1, n 2, n 3, n 4, n 5, n 6, n 7, n 8, n 9, n 10, n 11⟩

/-- A train's fields from the numbers before its lane list, the lanes, and the numbers after them. -/
def TrainFields.ofNumbers (v lanes w : List Nat) : TrainFields :=
  let n (k : Nat) : Nat := v.getD k 0
  let m (k : Nat) : Nat := w.getD k 0
  { influentPoint := n 0, rasFlowPoint := n 1, blanketPoint := presentU8 (n 2), runPoint := n 3, runSlot := n 4,
    speedSlot := n 5, ratedKw := n 6, lanes := lanes, normalRatio := m 0, stormRatio := m 1, rasMin := m 2,
    rasMax := m 3, blanketHigh := m 4, blanketHysteresis := m 5, blanketBoost := m 6, pacingPeriod := m 7,
    speedGain := m 8, minSpeed := m 9, maxSpeed := m 10, runConfirm := m 11, limitedDelay := m 12 }

def StormFields.ofNumbers (v : List Nat) : StormFields :=
  let n (k : Nat) : Nat := v.getD k 0
  ⟨n 0, n 1, n 2, n 3, n 4, n 5⟩

def CaptureFields.ofNumbers (v : List Nat) : CaptureFields :=
  let n (k : Nat) : Nat := v.getD k 0
  ⟨n 0, n 1, n 2, n 3, n 4, n 5, n 6⟩

end Sys2Proof

namespace Sys2Proof.Machine

/-- A body's fields by a layout that some wire form gives. -/
def readAs (layout : List WireField) (body : List Byte) : List Nat := numbersOf (layout.map WireField.size) body

/-- The items of a list, as many as its count byte names, each read at its offset. -/
def readList {α : Type} (count : Nat) (item : Nat → α) : List α := (List.range count).map item

/-- A train's fields: the lane list stands between two runs of fields of fixed widths. -/
def readTrain (body : List Byte) : TrainFields :=
  let count := fieldAt body 8 1
  TrainFields.ofNumbers (numbersOf [1, 1, 1, 1, 1, 1, 2] body) (readList count (fun k => fieldAt body (9 + k) 1))
    (numbersOf [1, 1, 2, 2, 2, 2, 1, 2, 2, 2, 2, 1, 2] (body.drop (9 + count)))

/-- A lane's valve curve after the lane number: a count byte and the points. -/
def readCurve (body : List Byte) : List (Nat × Nat) :=
  readList (fieldAt body 1 1) (fun k => (fieldAt body (2 + 4 * k) 2, fieldAt body (4 + 4 * k) 2))

/-! ### The request that a frame carries (section 11.2), owner by owner -/

/-- Field hubs and points. -/
def fieldFrame (kind : Nat) (body : List Byte) : Option Request :=
  let len := 1 + body.length
  let at1 (k : Nat) : Nat := fieldAt body k 1
  match kind with
  | 0x01 => some (pointSetRequest len (at1 0) (.ofNumbers (readAs (PointFields.ofNumbers []).wire (body.drop 1))))
  | 0x02 => some (pointReadRequest len (at1 0) (at1 1))
  | 0x03 => some (pointMaintRequest len (at1 0) (fieldAt body 1 2))
  | 0x04 => some (hubReadRequest len (at1 0))
  | 0x05 => some (hubRequestTakeRequest len (at1 0))
  | 0x06 => some (hubServiceRequest len (at1 0) (at1 1) (fieldAt body 2 2) (fieldAt body 4 2))
  | 0x07 => some (serviceResultRequest len)
  | _ => none

/-- Lanes. -/
def laneFrame (kind : Nat) (body : List Byte) : Option Request :=
  let len := 1 + body.length
  let at1 (k : Nat) : Nat := fieldAt body k 1
  match kind with
  | 0x10 => some (laneSetRequest len (at1 0) (.ofNumbers (readAs (LaneFields.ofNumbers []).wire (body.drop 1))))
  | 0x11 => some (laneCurveRequest len (at1 0) (readCurve body))
  | 0x12 => some (laneModeRequest len (at1 0) (at1 1))
  | 0x13 => some (laneManualAirRequest len (at1 0) (fieldAt body 1 2))
  | 0x14 => some (laneFaultSetRequest len (at1 0) (.ofNumbers (readAs (FaultFields.ofNumbers []).wire (body.drop 1))))
  | 0x15 => some (laneGateRequest len (at1 0) (at1 1))
  | 0x16 => some (laneReleaseRequest len (at1 0))
  | 0x17 => some (laneReadRequest len (at1 0) (at1 1))
  | 0x18 => some (laneFaultReadRequest len (at1 0) (at1 1))
  | _ => none

/-- The air allocator and the power budget. -/
def supplyFrame (kind : Nat) (body : List Byte) : Option Request :=
  let len := 1 + body.length
  match kind with
  | 0x20 => some (airSetRequest len (.ofNumbers (readAs (AirFields.ofNumbers []).wire body)))
  | 0x21 => some (airFreezeRequest len (fieldAt body 0 2))
  | 0x22 => some (airReadRequest len)
  | 0x30 => some (ceilingSetRequest len (fieldAt body 0 2) (fieldAt body 2 1) (fieldAt body 3 2))
  | 0x31 => some (budgetReadRequest len)
  | _ => none

/-- Blowers and header. -/
def blowerFrameRequest (kind : Nat) (body : List Byte) : Option Request :=
  let len := 1 + body.length
  let at1 (k : Nat) : Nat := fieldAt body k 1
  match kind with
  | 0x28 => some (blowerSetRequest len (at1 0) (.ofNumbers (readAs (BlowerFields.ofNumbers []).wire (body.drop 1))))
  | 0x29 => some (blowerRequest (at1 1) len (at1 0))
  | 0x2A => some (dutySetRequest len (readList (at1 0) (fun k => at1 (1 + k))))
  | 0x2B => some (headerSetRequest len (.ofNumbers (readAs (HeaderFields.ofNumbers []).wire body)))
  | 0x2C => some (blowerReadRequest len (at1 0) (at1 1))
  | 0x2D => some (headerReadRequest len)
  | _ => none

/-- Flow pacing. -/
def pacingFrame (kind : Nat) (body : List Byte) : Option Request :=
  let len := 1 + body.length
  let at1 (k : Nat) : Nat := fieldAt body k 1
  match kind with
  | 0x38 => some (trainSetRequest len (at1 0) (readTrain (body.drop 1)))
  | 0x39 => some (pumpRequest (at1 1) len (at1 0))
  | 0x3A => some (stormSetRequest len (.ofNumbers (readAs (StormFields.ofNumbers []).wire body)))
  | 0x3B => some (stormForceRequest len (at1 0))
  | 0x3C => some (trainReadRequest len (at1 0) (at1 1))
  | _ => none

/-- Alarms. -/
def alarmFrame (kind : Nat) (body : List Byte) : Option Request :=
  let len := 1 + body.length
  let at1 (k : Nat) : Nat := fieldAt body k 1
  match kind with
  | 0x40 => some (alarmSetRequest len (at1 0) (at1 1) (fieldAt body 2 2) (fieldAt body 4 2))
  | 0x41 => some (escalationSetRequest len (fieldAt body 0 2) (at1 2))
  | 0x42 => some (alarmAckRequest len (at1 0))
  | 0x43 => some (alarmShelveRequest len (at1 0) (fieldAt body 1 4))
  | 0x44 => some (alarmUnshelveRequest len (at1 0))
  | 0x45 => some (silenceRequest len)
  | 0x46 => some (alarmListReadRequest len (at1 0) (at1 1))
  | 0x47 => some (historyReadRequest len (at1 0))
  | _ => none

/-- Capture and the host link. -/
def linkFrame (kind : Nat) (body : List Byte) : Option Request :=
  let len := 1 + body.length
  let at1 (k : Nat) : Nat := fieldAt body k 1
  match kind with
  | 0x50 => some (captureSetRequest len (at1 0) (.ofNumbers (readAs (CaptureFields.ofNumbers []).wire (body.drop 1))))
  | 0x51 => some (captureArmRequest len (at1 0))
  | 0x52 => some (captureTriggerRequest len (at1 0))
  | 0x53 => some (captureReadRequest len (at1 0) (at1 1) (at1 2))
  | 0x54 => some (captureReleaseRequest len (at1 0))
  | 0x60 => some (identifyRequest len)
  | 0x61 => some (statusReadRequest len)
  | 0x62 => some (noticeReadRequest len)
  | 0x63 => some (restartRequest len)
  | _ => none

/-- A request of a kind the part does not know, reply kinds included (R185). -/
def unknownKind (kind : Nat) (body : List Byte) : Request :=
  requestIf kind (1 + body.length) (body.map (fun b => .u8 b.toNat)) true (fun _ => .refuse .unknownKind)

/-- The request that a complete frame carries. -/
def frameRequest (kind : Nat) (body : List Byte) : Request :=
  ((fieldFrame kind body).or <| (laneFrame kind body).or <| (supplyFrame kind body).or <|
    (blowerFrameRequest kind body).or <| (pacingFrame kind body).or <| (alarmFrame kind body).or <|
    linkFrame kind body).getD (unknownKind kind body)

/-! ### The receiver (R184) -/

/-- What the bytes after a frame's start byte do once the frame is whole: with a CRC-16 that matches, its request is taken
in the event of its completion; otherwise it is discarded. -/
def completeFrame (len : Byte) (rest : List Byte) (s : State) : State :=
  match rest.take len.toNat with
  | kind :: body =>
    if (rest.drop len.toNat).take 2 = bytesLE 2 (crc16 (len :: kind :: body)).toNat then
      (frameRequest kind.toNat body).after s
    else s
  | [] => s

/-- The receiver works through some bytes. It hunts for a start byte; a bad length byte discards the frame, and it hunts on
among the bytes that follow; a frame still short of its end is held; one that is whole is done with, and the receiver goes
on behind it. Each turn drops bytes, so `fuel` bounds the turns. -/
def receiveSteps : Nat → List Byte → State → State
  | 0, _, s => { s with rx := [] }
  | fuel + 1, bytes, s =>
    match fromStart bytes with
    | start :: len :: rest =>
      if badLength len.toNat then receiveSteps fuel rest s
      else if rest.length < len.toNat + 2 then { s with rx := start :: len :: rest }
      else receiveSteps fuel (rest.drop (len.toNat + 2)) (completeFrame len rest s)
    | begun => { s with rx := begun }

/-- Bytes come in behind those of a frame begun before. -/
def State.receiveBytes (bytes : List Byte) (s : State) : State :=
  let all := s.rx ++ bytes
  receiveSteps all.length all { s with rx := [] }

/-- A request reaches the part. With no frame begun, and a length byte that no receiver discards, its frame is received whole
and its completion is the event of the request (R184); otherwise its bytes are received as they come. -/
def Request.receive (r : Request) (s : State) : Host.Outcome State Fault Refusal :=
  if s.rx.isEmpty && !badLength r.len then .next (r.after s) else event (State.receiveBytes r.bytes) s

/-! ### Frames that are no request (R184, R185) -/

/-- HOST_FRAME_DISCARDED: bytes come in with which a frame is discarded for its length byte or its CRC-16, and the receiver
hunts on among those that follow (R184). Where they discard none, the row changes nothing (assumption log 27). -/
def execHostFrameDiscarded (bytes : List Byte) (s : State) : Host.Outcome State Fault Refusal :=
  event (fun s => if discardable (s.rx ++ bytes) then s.receiveBytes bytes else s) s

/-- INTERBYTE_TIMEOUT: more than 10 ms between two bytes (R184): what had been received is dropped. -/
def execInterbyteTimeout (_bytes : List Byte) (s : State) : Host.Outcome State Fault Refusal :=
  event (fun s => { s with rx := [] }) s

/-- FRAME_DURING_REPLY: discarded, without a reply or an effect (R184). -/
def execFrameDuringReply (_kind : Nat) (_body : List Byte) (s : State) : Host.Outcome State Fault Refusal :=
  event (fun s => { s with rx := [] }) s

/-- UNKNOWN_KIND_REQUEST (R185): a complete request that no other row names. Its kind is one the part does not know,
reply kinds included; or it is a BLOWER_COMMAND or PUMP_COMMAND with an unknown command, which goes to its owner (R80,
R113, assumption log 8). A request that another row names is that row's command, and changes nothing here. -/
def execUnknownKindRequest (kind : Nat) (body : List Byte) (s : State) : Host.Outcome State Fault Refusal :=
  if requestKinds.contains kind && !unknownCommand kind body then .next s else (frameRequest kind body).receive s

/-! ### Requests: field hubs and points -/

/-- POINT_SET (R171). -/
def execPointSet (len point : Nat) (f : PointFields) (s : State) : Host.Outcome State Fault Refusal :=
  (pointSetRequest len point f).receive s

/-- POINT_READ (R173). -/
def execPointRead (len first count : Nat) (s : State) : Host.Outcome State Fault Refusal :=
  (pointReadRequest len first count).receive s

/-- POINT_MAINT (R172). -/
def execPointMaint (len point time : Nat) (s : State) : Host.Outcome State Fault Refusal :=
  (pointMaintRequest len point time).receive s

/-- HUB_READ (R180). -/
def execHubRead (len hub : Nat) (s : State) : Host.Outcome State Fault Refusal :=
  (hubReadRequest len hub).receive s

/-- HUB_REQUEST_TAKE (R176). -/
def execHubRequestTake (len hub : Nat) (s : State) : Host.Outcome State Fault Refusal :=
  (hubRequestTakeRequest len hub).receive s

/-- HUB_SERVICE (R177). -/
def execHubService (len hub code address value : Nat) (s : State) : Host.Outcome State Fault Refusal :=
  (hubServiceRequest len hub code address value).receive s

/-- SERVICE_RESULT (R179). -/
def execServiceResult (len : Nat) (s : State) : Host.Outcome State Fault Refusal :=
  (serviceResultRequest len).receive s

/-! ### Requests: lanes -/

/-- LANE_SET (R1, R2). -/
def execLaneSet (len lane : Nat) (f : LaneFields) (s : State) : Host.Outcome State Fault Refusal :=
  (laneSetRequest len lane f).receive s

/-- LANE_CURVE (R3). -/
def execLaneCurve (len lane : Nat) (curve : List (Nat × Nat)) (s : State) : Host.Outcome State Fault Refusal :=
  (laneCurveRequest len lane curve).receive s

/-- LANE_MODE (R4). -/
def execLaneMode (len lane mode : Nat) (s : State) : Host.Outcome State Fault Refusal :=
  (laneModeRequest len lane mode).receive s

/-- LANE_MANUAL_AIR (R9). -/
def execLaneManualAir (len lane air : Nat) (s : State) : Host.Outcome State Fault Refusal :=
  (laneManualAirRequest len lane air).receive s

/-- LANE_FAULT_SET (R28). -/
def execLaneFaultSet (len lane : Nat) (f : FaultFields) (s : State) : Host.Outcome State Fault Refusal :=
  (laneFaultSetRequest len lane f).receive s

/-- LANE_GATE (R39). -/
def execLaneGate (len lane gate : Nat) (s : State) : Host.Outcome State Fault Refusal :=
  (laneGateRequest len lane gate).receive s

/-- LANE_RELEASE (R41). -/
def execLaneRelease (len lane : Nat) (s : State) : Host.Outcome State Fault Refusal :=
  (laneReleaseRequest len lane).receive s

/-- LANE_READ (R25). -/
def execLaneRead (len lane part : Nat) (s : State) : Host.Outcome State Fault Refusal :=
  (laneReadRequest len lane part).receive s

/-- LANE_FAULT_READ (R43): the reply carries the values from before the clearing. -/
def execLaneFaultRead (len lane clear : Nat) (s : State) : Host.Outcome State Fault Refusal :=
  (laneFaultReadRequest len lane clear).receive s

/-! ### Requests: the air allocator -/

/-- AIR_SET (R64): the surplus condition, which reads two of the parameters, is tested again. -/
def execAirSet (len : Nat) (f : AirFields) (s : State) : Host.Outcome State Fault Refusal :=
  (airSetRequest len f).receive s

/-- AIR_FREEZE (R55). -/
def execAirFreeze (len seconds : Nat) (s : State) : Host.Outcome State Fault Refusal :=
  (airFreezeRequest len seconds).receive s

/-- AIR_READ (R65): reading changes nothing. -/
def execAirRead (len : Nat) (s : State) : Host.Outcome State Fault Refusal :=
  (airReadRequest len).receive s

/-! ### Requests: blowers -/

/-- BLOWER_SET (R68). -/
def execBlowerSet (len blower : Nat) (f : BlowerFields) (s : State) : Host.Outcome State Fault Refusal :=
  (blowerSetRequest len blower f).receive s

/-- BLOWER_START: BLOWER_COMMAND START (R71, R80). -/
def execBlowerStart (len blower : Nat) (s : State) : Host.Outcome State Fault Refusal :=
  (blowerRequest 0 len blower).receive s

/-- BLOWER_STOP: BLOWER_COMMAND STOP (R76, R79, R80). -/
def execBlowerStop (len blower : Nat) (s : State) : Host.Outcome State Fault Refusal :=
  (blowerRequest 1 len blower).receive s

/-- BLOWER_RESET: BLOWER_COMMAND RESET (R80). -/
def execBlowerReset (len blower : Nat) (s : State) : Host.Outcome State Fault Refusal :=
  (blowerRequest 2 len blower).receive s

/-- BLOWER_LOCKOUT: BLOWER_COMMAND LOCKOUT (R80). -/
def execBlowerLockout (len blower : Nat) (s : State) : Host.Outcome State Fault Refusal :=
  (blowerRequest 3 len blower).receive s

/-- BLOWER_UNLOCK: BLOWER_COMMAND UNLOCK (R80). -/
def execBlowerUnlock (len blower : Nat) (s : State) : Host.Outcome State Fault Refusal :=
  (blowerRequest 4 len blower).receive s

/-- DUTY_SET (R84). -/
def execDutySet (len : Nat) (duty : List Nat) (s : State) : Host.Outcome State Fault Refusal :=
  (dutySetRequest len duty).receive s

/-- BLOWER_READ (R93). -/
def execBlowerRead (len blower part : Nat) (s : State) : Host.Outcome State Fault Refusal :=
  (blowerReadRequest len blower part).receive s

/-! ### Requests: the header -/

/-- HEADER_SET (R89). -/
def execHeaderSet (len : Nat) (f : HeaderFields) (s : State) : Host.Outcome State Fault Refusal :=
  (headerSetRequest len f).receive s

/-- HEADER_READ (R94). -/
def execHeaderRead (len : Nat) (s : State) : Host.Outcome State Fault Refusal :=
  (headerReadRequest len).receive s

/-! ### Requests: the power budget -/

/-- CEILING_SET (R106). -/
def execCeilingSet (len ceiling mode shedDelay : Nat) (s : State) : Host.Outcome State Fault Refusal :=
  (ceilingSetRequest len ceiling mode shedDelay).receive s

/-- BUDGET_READ (R108). -/
def execBudgetRead (len : Nat) (s : State) : Host.Outcome State Fault Refusal :=
  (budgetReadRequest len).receive s

/-! ### Requests: flow pacing -/

/-- TRAIN_SET (R111). -/
def execTrainSet (len train : Nat) (f : TrainFields) (s : State) : Host.Outcome State Fault Refusal :=
  (trainSetRequest len train f).receive s

/-- PUMP_START: PUMP_COMMAND START (R113, R114). -/
def execPumpStart (len train : Nat) (s : State) : Host.Outcome State Fault Refusal :=
  (pumpRequest 0 len train).receive s

/-- PUMP_STOP: PUMP_COMMAND STOP (R113, R115). -/
def execPumpStop (len train : Nat) (s : State) : Host.Outcome State Fault Refusal :=
  (pumpRequest 1 len train).receive s

/-- PUMP_RESET: PUMP_COMMAND RESET (R113). -/
def execPumpReset (len train : Nat) (s : State) : Host.Outcome State Fault Refusal :=
  (pumpRequest 2 len train).receive s

/-- PUMP_LOCKOUT: PUMP_COMMAND LOCKOUT (R113). -/
def execPumpLockout (len train : Nat) (s : State) : Host.Outcome State Fault Refusal :=
  (pumpRequest 3 len train).receive s

/-- PUMP_UNLOCK: PUMP_COMMAND UNLOCK (R113). -/
def execPumpUnlock (len train : Nat) (s : State) : Host.Outcome State Fault Refusal :=
  (pumpRequest 4 len train).receive s

/-- STORM_SET (R123). -/
def execStormSet (len : Nat) (f : StormFields) (s : State) : Host.Outcome State Fault Refusal :=
  (stormSetRequest len f).receive s

/-- STORM_FORCE (R125). -/
def execStormForce (len force : Nat) (s : State) : Host.Outcome State Fault Refusal :=
  (stormForceRequest len force).receive s

/-- TRAIN_READ (R128). -/
def execTrainRead (len train part : Nat) (s : State) : Host.Outcome State Fault Refusal :=
  (trainReadRequest len train part).receive s

/-! ### Requests: alarms -/

/-- ALARM_SET (R132). -/
def execAlarmSet (len entry priority onDelay offDelay : Nat) (s : State) : Host.Outcome State Fault Refusal :=
  (alarmSetRequest len entry priority onDelay offDelay).receive s

/-- ESCALATION_SET (R146). -/
def execEscalationSet (len time threshold : Nat) (s : State) : Host.Outcome State Fault Refusal :=
  (escalationSetRequest len time threshold).receive s

/-- ALARM_ACK (R138); ALL is sent as 0xFF. -/
def execAlarmAck (len entry : Nat) (s : State) : Host.Outcome State Fault Refusal :=
  (alarmAckRequest len entry).receive s

/-- ALARM_SHELVE (R139). -/
def execAlarmShelve (len entry time : Nat) (s : State) : Host.Outcome State Fault Refusal :=
  (alarmShelveRequest len entry time).receive s

/-- ALARM_UNSHELVE (R140). -/
def execAlarmUnshelve (len entry : Nat) (s : State) : Host.Outcome State Fault Refusal :=
  (alarmUnshelveRequest len entry).receive s

/-- SILENCE (R143): the reply carries the level and the horn as re-evaluated. -/
def execSilence (len : Nat) (s : State) : Host.Outcome State Fault Refusal :=
  (silenceRequest len).receive s

/-- ALARM_LIST_READ (R149). -/
def execAlarmListRead (len view page : Nat) (s : State) : Host.Outcome State Fault Refusal :=
  (alarmListReadRequest len view page).receive s

/-- HISTORY_READ (R148). -/
def execHistoryRead (len count : Nat) (s : State) : Host.Outcome State Fault Refusal :=
  (historyReadRequest len count).receive s

/-! ### Requests: capture -/

/-- CAPTURE_SET (R153). -/
def execCaptureSet (len channel : Nat) (f : CaptureFields) (s : State) : Host.Outcome State Fault Refusal :=
  (captureSetRequest len channel f).receive s

/-- CAPTURE_ARM (R154). -/
def execCaptureArm (len channel : Nat) (s : State) : Host.Outcome State Fault Refusal :=
  (captureArmRequest len channel).receive s

/-- CAPTURE_TRIGGER (R155): the reply gives the result at each channel named, in channel order. -/
def execCaptureTrigger (len channel : Nat) (s : State) : Host.Outcome State Fault Refusal :=
  (captureTriggerRequest len channel).receive s

/-- CAPTURE_READ (R157). -/
def execCaptureRead (len channel offset count : Nat) (s : State) : Host.Outcome State Fault Refusal :=
  (captureReadRequest len channel offset count).receive s

/-- CAPTURE_RELEASE (R158). -/
def execCaptureRelease (len channel : Nat) (s : State) : Host.Outcome State Fault Refusal :=
  (captureReleaseRequest len channel).receive s

/-! ### Requests: the host link -/

/-- IDENTIFY (R188). -/
def execIdentify (len : Nat) (s : State) : Host.Outcome State Fault Refusal :=
  (identifyRequest len).receive s

/-- STATUS_READ (R188). -/
def execStatusRead (len : Nat) (s : State) : Host.Outcome State Fault Refusal :=
  (statusReadRequest len).receive s

/-- NOTICE_READ (R187). -/
def execNoticeRead (len : Nat) (s : State) : Host.Outcome State Fault Refusal :=
  (noticeReadRequest len).receive s

/-- RESTART: the reply goes out first; the warm restart follows its last byte. -/
def execRestart (len : Nat) (s : State) : Host.Outcome State Fault Refusal :=
  (restartRequest len).receive s

end Sys2Proof.Machine
end

