-- ==== Sys2Proof/Machine/Dispatch.lean ====
section
/-! DEFINITION. One arm per command: the meaning each constructor of `Instr` calls. -/

namespace Sys2Proof.Machine

def exec (i : Instr) (s : State) : Host.Outcome State Fault Refusal :=
  match i with
  | .coldReset strap1 strap0 => Sys2Proof.Machine.execColdReset strap1 strap0 s
  | .resetPinAsserted => Sys2Proof.Machine.execResetPinAsserted s
  | .hostFrameDiscarded bytes => Sys2Proof.Machine.execHostFrameDiscarded bytes s
  | .interbyteTimeout bytes => Sys2Proof.Machine.execInterbyteTimeout bytes s
  | .frameDuringReply kind body => Sys2Proof.Machine.execFrameDuringReply kind body s
  | .unknownKindRequest kind body => Sys2Proof.Machine.execUnknownKindRequest kind body s
  | .pointSet len point f => Sys2Proof.Machine.execPointSet len point f s
  | .pointRead len first count => Sys2Proof.Machine.execPointRead len first count s
  | .pointMaint len point time => Sys2Proof.Machine.execPointMaint len point time s
  | .hubRead len hub => Sys2Proof.Machine.execHubRead len hub s
  | .hubRequestTake len hub => Sys2Proof.Machine.execHubRequestTake len hub s
  | .hubService len hub code address value => Sys2Proof.Machine.execHubService len hub code address value s
  | .serviceResult len => Sys2Proof.Machine.execServiceResult len s
  | .laneSet len lane f => Sys2Proof.Machine.execLaneSet len lane f s
  | .laneCurve len lane curve => Sys2Proof.Machine.execLaneCurve len lane curve s
  | .laneMode len lane mode => Sys2Proof.Machine.execLaneMode len lane mode s
  | .laneManualAir len lane air => Sys2Proof.Machine.execLaneManualAir len lane air s
  | .laneFaultSet len lane f => Sys2Proof.Machine.execLaneFaultSet len lane f s
  | .laneGate len lane gate => Sys2Proof.Machine.execLaneGate len lane gate s
  | .laneRelease len lane => Sys2Proof.Machine.execLaneRelease len lane s
  | .laneRead len lane part => Sys2Proof.Machine.execLaneRead len lane part s
  | .laneFaultRead len lane clear => Sys2Proof.Machine.execLaneFaultRead len lane clear s
  | .airSet len f => Sys2Proof.Machine.execAirSet len f s
  | .airFreeze len seconds => Sys2Proof.Machine.execAirFreeze len seconds s
  | .airRead len => Sys2Proof.Machine.execAirRead len s
  | .blowerSet len blower f => Sys2Proof.Machine.execBlowerSet len blower f s
  | .blowerStart len blower => Sys2Proof.Machine.execBlowerStart len blower s
  | .blowerStop len blower => Sys2Proof.Machine.execBlowerStop len blower s
  | .blowerReset len blower => Sys2Proof.Machine.execBlowerReset len blower s
  | .blowerLockout len blower => Sys2Proof.Machine.execBlowerLockout len blower s
  | .blowerUnlock len blower => Sys2Proof.Machine.execBlowerUnlock len blower s
  | .dutySet len duty => Sys2Proof.Machine.execDutySet len duty s
  | .headerSet len f => Sys2Proof.Machine.execHeaderSet len f s
  | .blowerRead len blower part => Sys2Proof.Machine.execBlowerRead len blower part s
  | .headerRead len => Sys2Proof.Machine.execHeaderRead len s
  | .ceilingSet len ceiling mode shedDelay => Sys2Proof.Machine.execCeilingSet len ceiling mode shedDelay s
  | .budgetRead len => Sys2Proof.Machine.execBudgetRead len s
  | .trainSet len train f => Sys2Proof.Machine.execTrainSet len train f s
  | .pumpStart len train => Sys2Proof.Machine.execPumpStart len train s
  | .pumpStop len train => Sys2Proof.Machine.execPumpStop len train s
  | .pumpReset len train => Sys2Proof.Machine.execPumpReset len train s
  | .pumpLockout len train => Sys2Proof.Machine.execPumpLockout len train s
  | .pumpUnlock len train => Sys2Proof.Machine.execPumpUnlock len train s
  | .stormSet len f => Sys2Proof.Machine.execStormSet len f s
  | .stormForce len force => Sys2Proof.Machine.execStormForce len force s
  | .trainRead len train part => Sys2Proof.Machine.execTrainRead len train part s
  | .alarmSet len entry priority onDelay offDelay => Sys2Proof.Machine.execAlarmSet len entry priority onDelay offDelay s
  | .escalationSet len time threshold => Sys2Proof.Machine.execEscalationSet len time threshold s
  | .alarmAck len entry => Sys2Proof.Machine.execAlarmAck len entry s
  | .alarmShelve len entry time => Sys2Proof.Machine.execAlarmShelve len entry time s
  | .alarmUnshelve len entry => Sys2Proof.Machine.execAlarmUnshelve len entry s
  | .silence len => Sys2Proof.Machine.execSilence len s
  | .alarmListRead len view page => Sys2Proof.Machine.execAlarmListRead len view page s
  | .historyRead len count => Sys2Proof.Machine.execHistoryRead len count s
  | .captureSet len channel f => Sys2Proof.Machine.execCaptureSet len channel f s
  | .captureArm len channel => Sys2Proof.Machine.execCaptureArm len channel s
  | .captureTrigger len channel => Sys2Proof.Machine.execCaptureTrigger len channel s
  | .captureRead len channel offset count => Sys2Proof.Machine.execCaptureRead len channel offset count s
  | .captureRelease len channel => Sys2Proof.Machine.execCaptureRelease len channel s
  | .identify len => Sys2Proof.Machine.execIdentify len s
  | .statusRead len => Sys2Proof.Machine.execStatusRead len s
  | .noticeRead len => Sys2Proof.Machine.execNoticeRead len s
  | .restart len => Sys2Proof.Machine.execRestart len s
  | .warmRestart => Sys2Proof.Machine.execWarmRestart s
  | .framePeriodBoundary => Sys2Proof.Machine.execFramePeriodBoundary s
  | .uptimeSecond => Sys2Proof.Machine.execUptimeSecond s
  | .returnFrameJudged line frame => Sys2Proof.Machine.execReturnFrameJudged line frame s
  | .returnMiss hub => Sys2Proof.Machine.execReturnMiss hub s
  | .hubAbsentEntered hub => Sys2Proof.Machine.execHubAbsentEntered hub s
  | .hubPresentEntered hub => Sys2Proof.Machine.execHubPresentEntered hub s
  | .pointStale point => Sys2Proof.Machine.execPointStale point s
  | .maintWindowEnd point => Sys2Proof.Machine.execMaintWindowEnd point s
  | .serviceNoAnswer => Sys2Proof.Machine.execServiceNoAnswer s
  | .lanePeriod lane => Sys2Proof.Machine.execLanePeriod lane s
  | .flowMismatchDetected lane => Sys2Proof.Machine.execFlowMismatchDetected lane s
  | .valveWindowEnd lane => Sys2Proof.Machine.execValveWindowEnd lane s
  | .valveRetryRevalidate lane => Sys2Proof.Machine.execValveRetryRevalidate lane s
  | .airServing => Sys2Proof.Machine.execAirServing s
  | .freezeEnd => Sys2Proof.Machine.execFreezeEnd s
  | .entryStarved lane => Sys2Proof.Machine.execEntryStarved lane s
  | .stageInWanted => Sys2Proof.Machine.execStageInWanted s
  | .stageOutWanted => Sys2Proof.Machine.execStageOutWanted s
  | .powerAdmission => Sys2Proof.Machine.execPowerAdmission s
  | .blowoffTimeEnd blower => Sys2Proof.Machine.execBlowoffTimeEnd blower s
  | .runConfirmTimeout blower => Sys2Proof.Machine.execRunConfirmTimeout blower s
  | .rampTimeout blower => Sys2Proof.Machine.execRampTimeout blower s
  | .retryDelayEnd blower => Sys2Proof.Machine.execRetryDelayEnd blower s
  | .startDeferred blower => Sys2Proof.Machine.execStartDeferred blower s
  | .unloadingTimeEnd blower => Sys2Proof.Machine.execUnloadingTimeEnd blower s
  | .stopConfirmTimeout blower => Sys2Proof.Machine.execStopConfirmTimeout blower s
  | .blowerFoundRunning blower => Sys2Proof.Machine.execBlowerFoundRunning blower s
  | .surgeDetected blower => Sys2Proof.Machine.execSurgeDetected blower s
  | .surgeHoldEnd blower => Sys2Proof.Machine.execSurgeHoldEnd blower s
  | .surgeWatchEnd blower => Sys2Proof.Machine.execSurgeWatchEnd blower s
  | .headerPeriod => Sys2Proof.Machine.execHeaderPeriod s
  | .movPeriod => Sys2Proof.Machine.execMovPeriod s
  | .shedTimerExpiry => Sys2Proof.Machine.execShedTimerExpiry s
  | .pacingPeriod train => Sys2Proof.Machine.execPacingPeriod train s
  | .blanketBoostOn train => Sys2Proof.Machine.execBlanketBoostOn train s
  | .pumpRunConfirmTimeout train => Sys2Proof.Machine.execPumpRunConfirmTimeout train s
  | .pumpFoundRunning train => Sys2Proof.Machine.execPumpFoundRunning train s
  | .rasLimited train => Sys2Proof.Machine.execRasLimited train s
  | .stormEvaluation => Sys2Proof.Machine.execStormEvaluation s
  | .stormEntry => Sys2Proof.Machine.execStormEntry s
  | .stormExit => Sys2Proof.Machine.execStormExit s
  | .onDelayEnd entry => Sys2Proof.Machine.execOnDelayEnd entry s
  | .clearingEnd entry => Sys2Proof.Machine.execClearingEnd entry s
  | .shelfEnd entry => Sys2Proof.Machine.execShelfEnd entry s
  | .escalation entry => Sys2Proof.Machine.execEscalation entry s
  | .captureSample channel => Sys2Proof.Machine.execCaptureSample channel s
  | .captureFrozen channel => Sys2Proof.Machine.execCaptureFrozen channel s

end Sys2Proof.Machine
end

