-- ==== Sys2Proof/Machine/Step.lean ====
section
/-! DEFINITION. One step of the part: the command at the front of its queue. -/

namespace Sys2Proof.Machine

/-- A command put at the front of the queue of waiting commands. -/
def State.push (s : State) (c : Instr) : State := { s with pending := c :: s.pending }

/-- The command at the front of the queue runs on the state with the queue's rest; with nothing waiting the part idles
(DESIGN CHOICE: assumption log 2). -/
def step (s : State) : Host.Outcome State Fault Refusal :=
  match s.pending with
  | [] => .next s
  | c :: rest => exec c { s with pending := rest }

/-- The command a table word spells put at the front of the queue; the state as it is where it spells none. -/
def State.withFetchWord (s : State) (nbits w : Nat) : State :=
  match decodeTableWord nbits w with
  | some c => s.push c
  | none => s

end Sys2Proof.Machine
end

