-- ==== Sys2Proof/WellFormed.lean ====
section
/-! DEFINITION. Which commands can reach the part: a request's frame as the plant processor sends it, and the checks that
its operands fit the widths of their fields. -/

namespace Sys2Proof
open Machine

/-- The frame of a request: its kind, its length byte, and its body field by field. -/
structure RequestFrame where
  kind : Nat
  len : Nat
  body : List WireField

/-- The frame of a command that is a request of a known kind (section 11.2); events have none. -/
def Instr.frame? : Instr → Option RequestFrame
  | .pointSet len point f => some ⟨0x01, len, .u8 point :: f.wire⟩
  | .pointRead len first count => some ⟨0x02, len, [.u8 first, .u8 count]⟩
  | .pointMaint len point time => some ⟨0x03, len, [.u8 point, .u16 time]⟩
  | .hubRead len hub => some ⟨0x04, len, [.u8 hub]⟩
  | .hubRequestTake len hub => some ⟨0x05, len, [.u8 hub]⟩
  | .hubService len hub code address value => some ⟨0x06, len, [.u8 hub, .u8 code, .u16 address, .u16 value]⟩
  | .serviceResult len => some ⟨0x07, len, []⟩
  | .laneSet len lane f => some ⟨0x10, len, .u8 lane :: f.wire⟩
  | .laneCurve len lane curve => some ⟨0x11, len, .u8 lane :: curveWire curve⟩
  | .laneMode len lane mode => some ⟨0x12, len, [.u8 lane, .u8 mode]⟩
  | .laneManualAir len lane air => some ⟨0x13, len, [.u8 lane, .u16 air]⟩
  | .laneFaultSet len lane f => some ⟨0x14, len, .u8 lane :: f.wire⟩
  | .laneGate len lane gate => some ⟨0x15, len, [.u8 lane, .u8 gate]⟩
  | .laneRelease len lane => some ⟨0x16, len, [.u8 lane]⟩
  | .laneRead len lane part => some ⟨0x17, len, [.u8 lane, .u8 part]⟩
  | .laneFaultRead len lane clear => some ⟨0x18, len, [.u8 lane, .u8 clear]⟩
  | .airSet len f => some ⟨0x20, len, f.wire⟩
  | .airFreeze len seconds => some ⟨0x21, len, [.u16 seconds]⟩
  | .airRead len => some ⟨0x22, len, []⟩
  | .blowerSet len blower f => some ⟨0x28, len, .u8 blower :: f.wire⟩
  | .blowerStart len blower => some ⟨0x29, len, [.u8 blower, .u8 0]⟩
  | .blowerStop len blower => some ⟨0x29, len, [.u8 blower, .u8 1]⟩
  | .blowerReset len blower => some ⟨0x29, len, [.u8 blower, .u8 2]⟩
  | .blowerLockout len blower => some ⟨0x29, len, [.u8 blower, .u8 3]⟩
  | .blowerUnlock len blower => some ⟨0x29, len, [.u8 blower, .u8 4]⟩
  | .dutySet len duty => some ⟨0x2A, len, dutyWire duty⟩
  | .headerSet len f => some ⟨0x2B, len, f.wire⟩
  | .blowerRead len blower part => some ⟨0x2C, len, [.u8 blower, .u8 part]⟩
  | .headerRead len => some ⟨0x2D, len, []⟩
  | .ceilingSet len ceiling mode shedDelay => some ⟨0x30, len, [.u16 ceiling, .u8 mode, .u16 shedDelay]⟩
  | .budgetRead len => some ⟨0x31, len, []⟩
  | .trainSet len train f => some ⟨0x38, len, .u8 train :: f.wire⟩
  | .pumpStart len train => some ⟨0x39, len, [.u8 train, .u8 0]⟩
  | .pumpStop len train => some ⟨0x39, len, [.u8 train, .u8 1]⟩
  | .pumpReset len train => some ⟨0x39, len, [.u8 train, .u8 2]⟩
  | .pumpLockout len train => some ⟨0x39, len, [.u8 train, .u8 3]⟩
  | .pumpUnlock len train => some ⟨0x39, len, [.u8 train, .u8 4]⟩
  | .stormSet len f => some ⟨0x3A, len, f.wire⟩
  | .stormForce len force => some ⟨0x3B, len, [.u8 force]⟩
  | .trainRead len train part => some ⟨0x3C, len, [.u8 train, .u8 part]⟩
  | .alarmSet len entry priority onDelay offDelay =>
    some ⟨0x40, len, [.u8 entry, .u8 priority, .u16 onDelay, .u16 offDelay]⟩
  | .escalationSet len time threshold => some ⟨0x41, len, [.u16 time, .u8 threshold]⟩
  | .alarmAck len entry => some ⟨0x42, len, [.u8 entry]⟩
  | .alarmShelve len entry time => some ⟨0x43, len, [.u8 entry, .u32 time]⟩
  | .alarmUnshelve len entry => some ⟨0x44, len, [.u8 entry]⟩
  | .silence len => some ⟨0x45, len, []⟩
  | .alarmListRead len view page => some ⟨0x46, len, [.u8 view, .u8 page]⟩
  | .historyRead len count => some ⟨0x47, len, [.u8 count]⟩
  | .captureSet len channel f => some ⟨0x50, len, .u8 channel :: f.wire⟩
  | .captureArm len channel => some ⟨0x51, len, [.u8 channel]⟩
  | .captureTrigger len channel => some ⟨0x52, len, [.u8 channel]⟩
  | .captureRead len channel offset count => some ⟨0x53, len, [.u8 channel, .u8 offset, .u8 count]⟩
  | .captureRelease len channel => some ⟨0x54, len, [.u8 channel]⟩
  | .identify len => some ⟨0x60, len, []⟩
  | .statusRead len => some ⟨0x61, len, []⟩
  | .noticeRead len => some ⟨0x62, len, []⟩
  | .restart len => some ⟨0x63, len, []⟩
  | .coldReset _ _ | .resetPinAsserted | .hostFrameDiscarded _ | .interbyteTimeout _ | .frameDuringReply _ _
  | .unknownKindRequest _ _ | .warmRestart | .framePeriodBoundary | .uptimeSecond | .returnFrameJudged _ _
  | .returnMiss _ | .hubAbsentEntered _ | .hubPresentEntered _ | .pointStale _ | .maintWindowEnd _ | .serviceNoAnswer
  | .lanePeriod _ | .flowMismatchDetected _ | .valveWindowEnd _ | .valveRetryRevalidate _ | .airServing | .freezeEnd
  | .entryStarved _ | .stageInWanted | .stageOutWanted | .powerAdmission | .blowoffTimeEnd _ | .runConfirmTimeout _
  | .rampTimeout _ | .retryDelayEnd _ | .startDeferred _ | .unloadingTimeEnd _ | .stopConfirmTimeout _
  | .blowerFoundRunning _ | .surgeDetected _ | .surgeHoldEnd _ | .surgeWatchEnd _ | .headerPeriod | .movPeriod
  | .shedTimerExpiry | .pacingPeriod _ | .blanketBoostOn _ | .pumpRunConfirmTimeout _ | .pumpFoundRunning _
  | .rasLimited _ | .stormEvaluation | .stormEntry | .stormExit | .onDelayEnd _ | .clearingEnd _ | .shelfEnd _
  | .escalation _ | .captureSample _ | .captureFrozen _ => none

/-- The number fits the width of its field. -/
def fieldFits : WireField → Bool
  | .u8 n => decide (n < 256)
  | .u16 n => decide (n < 65536)
  | .u24 n => decide (n < 16777216)
  | .u32 n => decide (n < 4294967296)
  | .i16 z => decide (-32768 ≤ z ∧ z ≤ 32767)
  | .i32 z => decide (-2147483648 ≤ z ∧ z ≤ 2147483647)

/-- A complete request: a length byte from 1 to 250 (R184), every field within its width. -/
def RequestFrame.wf (f : RequestFrame) : Bool := within [(1, f.len, 250)] && f.body.all fieldFits

/-- A frame that no other row names, or one that comes during a reply: a kind byte and a body of up to 249 bytes. -/
def kindAndBody (kind : Nat) (body : List Byte) : Bool := decide (kind < 256) && decide (body.length ≤ 249)

/-- The optional one-byte fields of a configuration. -/
def Instr.optionals : Instr → List (Option Nat)
  | .laneSet _ _ f => [f.train, f.nh4Point, f.feedbackPoint]
  | .blowerSet _ _ f => [f.blowoffPoint]
  | .trainSet _ _ f => [f.blanketPoint]
  | _ => []

/-- What a sender can send. An optional field that is present is not all ones, the absent value (R191). -/
def Instr.wf (c : Instr) : Bool :=
  match c with
  | .hostFrameDiscarded bytes => discardable bytes
  | .interbyteTimeout bytes => bytes.head? == some 0x7E#8
  | .frameDuringReply kind body => kindAndBody kind body
  | .unknownKindRequest kind body => kindAndBody kind body && (!requestKinds.contains kind || unknownCommand kind body)
  | _ => c.frame?.all RequestFrame.wf && c.optionals.all (· != some 255)

end Sys2Proof
end

