-- ==== Sys2Proof/Safety.lean ====
section
/-! DEFINITION. The terms claims are made in: a step that goes on, the lines that follow the records, and what a command
leaves unchanged. -/

namespace Sys2Proof.Machine

/-- The command runs, from `s` to `t`. -/
abbrev Runs (c : Instr) (s t : State) : Prop := exec c s = .next t

/-- The part takes requests and events: the RESET pin is not held and no warm restart is under way. -/
abbrev State.atWork (s : State) : Prop := s.held = false ∧ s.restarting = false

/-- The lines follow the records (R143 to R145, R186, R189): while the RESET pin is held ATTN is released and the alarm
lines are off; otherwise ATTN is asserted exactly while the notice queue is not empty, and the alarm lines and the
silenced level are as the catalogue drives them. -/
abbrev State.LinesFollow (s : State) : Prop :=
  if s.held then s.attn = false ∧ s.alarm.horn = false ∧ s.alarm.beacon = .off ∧ s.alarm.dialOut = false
  else s.attn = !s.notices.isEmpty ∧ s.alarm.refresh = s.alarm

/-- At work, with the lines following the records: every state of a run but those under the RESET pin or between a
RESTART and its warm restart. -/
abbrev State.Ready (s : State) : Prop := s.atWork ∧ s.LinesFollow

/-- Ready, with no frame begun in the receiver: a request's frame that comes now is received whole (R184). -/
abbrev State.Hears (s : State) : Prop := s.Ready ∧ s.rx = []

/-- The reply to a request that is taken (R185): the request's kind with the top bit set, and a body. -/
def taken (kind : Nat) (body : List WireField) : Option Reply := some { kind := kind + 0x80, body := body }

/-- The reply to a request that is refused. -/
def refusedFor (kind : Nat) (r : Reason) : Option Reply := some (refusal kind r)

/-- The request is taken: from `s` to `t`, with this reply, its frame out of the receiver. -/
abbrev Answers (c : Instr) (s t : State) (kind : Nat) (body : List WireField) : Prop :=
  Runs c s { t with reply := taken kind body, rx := [] }

/-- The request is refused for this reason: nothing but the reply and the receiver changes (R185). -/
abbrev Refuses (c : Instr) (s : State) (kind : Nat) (r : Reason) : Prop :=
  Runs c s { s with reply := refusedFor kind r, rx := [] }

/-- One turn of an event that brings many: where a timer has run out, what its event row `c` does on `s`, before the lines
follow; elsewhere nothing. -/
abbrev TurnOf (c : Instr) (due : Prop) (s t : State) : Prop :=
  (due → s.held = false → Runs c s (finish s t)) ∧ (¬ due → t = s)

/-- The notice queue holds at most one record per source (R186). -/
abbrev State.OneRecordPerSource (s : State) : Prop := (s.notices.map (·.source)).Nodup

/-- The alarm history queue holds at most 128 records (R147). -/
abbrev State.HistoryFits (s : State) : Prop := s.alarm.history.length ≤ 128

/-! ### The allocator and the power budget in order -/

/-- The lane is UNCONFIGURED exactly while it has no configuration. -/
abbrev State.modeFits (s : State) (l : LaneId) : Prop := (s.lane l).mode = .unconfigured ↔ (s.lane l).config = none

/-- The allocator's records agree with the blowers' (R46, R48, R59, R83): the online order is the capacity list's, it
holds exactly the blowers that are ONLINE, each once and configured; the lanes' grants stay within the online capacity
unless SHORT; a lane has at most one entry in the request queue. A lane is UNCONFIGURED exactly while it has no
configuration (R1, section 1.3). -/
abbrev State.AirInOrder (s : State) : Prop :=
  s.online = s.air.capacity.map (·.1) ∧ s.online.Nodup ∧
  (∀ b, b ∈ s.online ↔ (s.blower b).state = .online) ∧ (∀ b ∈ s.online, (s.blower b).config.isSome = true) ∧
  (s.air.short = true ∨ s.air.sumGrants ≤ s.air.online) ∧ (s.air.queue.map (·.lane)).Nodup ∧
  (∀ l, s.modeFits l)

/-- The standings at the power budget that a blower's state allows (sections 4.1 to 4.4). -/
def BlowerState.standings : BlowerState → List BlowerPower
  | .starting .waitPower _ _ => [.waiting]
  | .starting .retryWait _ _ => [.none]
  | .starting _ _ _ => [.start]
  | .online => [.run]
  | .stopping _ => [.start, .run]
  | .failed => [.none, .start, .run]
  | _ => [.none]

/-- The standings that a pump's state allows (sections 6.1 and 6.2). -/
def PumpState.standings : PumpState → List PumpPower
  | .starting .waitPower => [.none, .waiting]
  | .starting .runConfirm => [.pump]
  | .running => [.pump]
  | _ => [.none]

/-- A commitment agrees with its holder (R97, R100, R102): a blower's kind is its standing, and a START covers the run kW; a
pump's is the kW of its commanded speed, in RUN_CONFIRM the min speed its start was presented with. -/
def State.commitAgrees (s : State) (e : Commit) : Bool :=
  match e.holder with
  | .blower b =>
    match (s.blower b).power, e.kind with
    | .start, .start => (s.blower b).config.any (fun c => decide (c.runKw ≤ e.kw))
    | .run, .run => (s.blower b).config.isSome
    | _, _ => false
  | .pump k =>
    e.kind == .pump && (s.train k).power == .pump &&
    (s.train k).config.any (fun c => e.kw == pumpKw c (s.train k).speed) &&
    ((s.train k).state == .running || (s.train k).speed == (s.train k).startSpeed)

/-- A waiting entry agrees with its holder (R71, R98, R114, R120): a blower waits with its START request, at least its run
kW; a pump with the start it presented, at the min speed then in force, or with an increase that would make its commitment
that of its increase target. -/
def State.waitAgrees (s : State) (e : PowerEntry) : Bool :=
  match e.holder with
  | .blower b => (s.blower b).power == .waiting && (s.blower b).config.any (fun c => decide (c.runKw ≤ e.kw))
  | .pump k =>
    (s.train k).config.any (fun c =>
      ((s.train k).power == .waiting && e.kw == pumpKw c (s.train k).startSpeed) ||
      ((s.train k).state == .running && (s.train k).increaseTarget.any (fun x =>
        (s.budget.commitOf e.holder).any (fun held => held.kw + e.kw == pumpKw c x))))

/-- The power budget's records agree with the blowers' and the pumps' (R97, R98, R102, R103): at most one commitment and
one waiting entry a holder, each agreeing with it; a holder that stands admitted has its commitment; every standing is one
its holder's state allows; the pump cap is SET exactly in SHEDDING, and in NORMAL the commitments stay within the
ceiling (R103, R105, R118). -/
abbrev State.PowerInOrder (s : State) : Prop :=
  (s.budget.commits.map (·.holder)).Nodup ∧ (s.budget.waits.map (·.holder)).Nodup ∧
  (∀ e ∈ s.budget.commits, s.commitAgrees e = true) ∧ (∀ e ∈ s.budget.waits, s.waitAgrees e = true) ∧
  (∀ b, (s.blower b).power ∈ (s.blower b).state.standings ∧
    ((s.blower b).power = .start ∨ (s.blower b).power = .run → (s.budget.commitOf (.blower b)).isSome = true)) ∧
  (∀ k, (s.train k).power ∈ (s.train k).state.standings ∧
    ((s.train k).power = .pump → (s.budget.commitOf (.pump k)).isSome = true) ∧
    ((s.train k).state ≠ .unconfigured → (s.train k).config.isSome = true)) ∧
  (s.budget.shedding = true ∨ s.budget.over = false) ∧ s.plant.pumpCap = s.budget.shedding

/-! ### The output slots -/

/-- The slot of this number has this claimant; there is such a slot. -/
abbrev State.claimed (s : State) (n : Nat) (who : Claimant) : Prop := ∃ q : SlotId, q.val = n ∧ (s.slot q).claimant = who

/-- Each slot that a configured lane, blower or pump names is claimed by it, in that role (R1, R69, R112, R174). -/
abbrev State.SlotsClaimed (s : State) : Prop :=
  (∀ l, ∀ c ∈ (s.lane l).config, s.claimed c.valveSlot (.laneValve l)) ∧
  (∀ b, ∀ c ∈ (s.blower b).config, ∀ x ∈ blowerSlots b c, s.claimed x.1 x.2) ∧
  (∀ k, ∀ c ∈ (s.train k).config, ∀ x ∈ pumpSlots k c, s.claimed x.1 x.2)

/-- The slot of this number carries this value, valid. -/
abbrev State.drives (s : State) (n value : Nat) : Prop :=
  ∀ q : SlotId, q.val = n → (s.slot q).value = value ∧ (s.slot q).valid = true

/-- The slot of this number is not valid. -/
abbrev State.undriven (s : State) (n : Nat) : Prop := ∀ q : SlotId, q.val = n → (s.slot q).valid = false

/-- A blower's run, speed and blow-off slots (R69). -/
abbrev State.drivesBlower (s : State) (c : BlowerFields) (run speed blowoff : Nat) : Prop :=
  s.drives c.runSlot run ∧ s.drives c.speedSlot speed ∧ s.drives c.blowoffSlot blowoff

/-- A pump's run and speed slots (R112). -/
abbrev State.drivesPump (s : State) (c : TrainFields) (run speed : Nat) : Prop :=
  s.drives c.runSlot run ∧ s.drives c.speedSlot speed

/-- A blower's slots carry what its state gives (R69): the run, speed and blow-off outputs of each state and step; in
UNLOADING a speed that is valid, whichever min speed it was entered with. -/
def State.blowerDriven (s : State) (b : BlowerId) (c : BlowerFields) : Prop :=
  match (s.blower b).state with
  | .unconfigured => s.undriven c.runSlot ∧ s.undriven c.speedSlot ∧ s.undriven c.blowoffSlot
  | .adopting => s.undriven c.runSlot ∧ s.undriven c.speedSlot ∧ s.undriven c.blowoffSlot
  | .off => s.drivesBlower c 0 0 1000
  | .tripped => s.drivesBlower c 0 0 1000
  | .failed => s.drivesBlower c 0 0 1000
  | .lockedOut => s.drivesBlower c 0 0 0
  | .starting .waitPower _ _ => s.drivesBlower c 0 0 1000
  | .starting .blowoffOpen _ _ => s.drivesBlower c 0 0 1000
  | .starting .retryWait _ _ => s.drivesBlower c 0 0 1000
  | .starting .motorStart _ copy => s.drivesBlower c 1 copy.minSpeed 1000
  | .starting .ramp _ copy => s.drivesBlower c 1 copy.minSpeed 1000
  | .starting .loading _ copy => s.drivesBlower c 1 (clampNat copy.minSpeed copy.maxSpeed s.header.commonSpeed) 0
  | .online => s.drivesBlower c 1 s.header.commonSpeed (if (s.blower b).surge.phase = .holding then 1000 else 0)
  | .stopping .unloading => s.drives c.runSlot 1 ∧ (∀ q : SlotId, q.val = c.speedSlot → (s.slot q).valid = true) ∧
      s.drives c.blowoffSlot 1000
  | .stopping .runDown => s.drivesBlower c 0 0 1000

/-- A pump's slots carry what its state gives (R112): nothing in ADOPTING, its start's min speed in RUN_CONFIRM, its
commanded speed in RUNNING, 0 elsewhere. -/
def State.pumpDriven (s : State) (k : TrainId) (c : TrainFields) : Prop :=
  match (s.train k).state with
  | .unconfigured => s.undriven c.runSlot ∧ s.undriven c.speedSlot
  | .adopting => s.undriven c.runSlot ∧ s.undriven c.speedSlot
  | .starting .runConfirm => s.drivesPump c 1 (s.train k).startSpeed
  | .running => s.drivesPump c 1 (s.train k).speed
  | _ => s.drivesPump c 0 0

/-- A lane's valve slot carries what its mode gives (R5, R6, R18, R19, R22, R35): 0 in OUT_OF_SERVICE and PARKED, not valid
in ADOPTING, the valve command in HOLD, and in AUTO and MANUAL the valve command or the target a retry went back to; while a
retry is under way it is not valid, or a period completed since has written the valve command. A move is supervised in AUTO,
MANUAL and HOLD alone. -/
def State.laneDriven (s : State) (l : LaneId) (c : LaneFields) : Prop :=
  match (s.lane l).mode with
  | .unconfigured => True
  | .outOfService => s.drives c.valveSlot 0 ∧ (s.lane l).sup.moving = false
  | .parked => s.drives c.valveSlot 0 ∧ (s.lane l).sup.moving = false
  | .adopting _ => s.undriven c.valveSlot ∧ (s.lane l).sup.moving = false
  | .hold _ => s.drives c.valveSlot (s.lane l).valveCommand ∨
      ((s.lane l).sup.retry ≠ .none ∧ s.undriven c.valveSlot)
  | _ => s.drives c.valveSlot (s.lane l).valveCommand ∨
      ((s.lane l).sup.retry = .none ∧ s.drives c.valveSlot (s.lane l).sup.target) ∨
      ((s.lane l).sup.retry ≠ .none ∧ s.undriven c.valveSlot)

/-- Each machine's slots are claimed by it and carry what its state gives; a lane is UNCONFIGURED exactly while it has no
configuration (R1, section 1.3). -/
abbrev State.OutputsFollow (s : State) : Prop :=
  s.SlotsClaimed ∧ (∀ l, ∀ c ∈ (s.lane l).config, s.laneDriven l c) ∧
  (∀ b, ∀ c ∈ (s.blower b).config, s.blowerDriven b c) ∧ (∀ k, ∀ c ∈ (s.train k).config, s.pumpDriven k c) ∧
  (∀ l, s.modeFits l)

/-- The storm entry of a warm restart under FORCE_STORM wakes the lane (R10, R126, R130): it is in PARKED, wakes on storm and
has a valve curve. -/
abbrev State.wokenByRestart (s : State) (l : LaneId) : Prop :=
  s.plant.force = .storm ∧ (s.lane l).mode = .parked ∧ (s.lane l).curve ≠ [] ∧
  (s.lane l).config.any (fun c => c.wakeOnStorm == 1) = true

/-- The slots at a lane's entry to HOLD (R35): its valve slot valid at the valve command of the last completed period, but
that a retry under way leaves it as it is (assumption log 23). Every other slot is unchanged, unless another lane's valve is
set to it: that lane may be served and end its adoption (R50, R7). -/
abbrev HoldSlots (l : LaneId) (s t : State) : Prop :=
  ∀ q : SlotId, (∀ x c, x ≠ l → (s.lane x).config = some c → q.val ≠ c.valveSlot) →
    t.slot q = if (s.lane l).sup.retry = .none ∧ (s.lane l).config.any (fun c => q.val == c.valveSlot) = true then
      { s.slot q with value := (s.lane l).valveCommand, valid := true } else s.slot q

/-! ### What a command leaves unchanged. Each relation names all that may differ; everything else is equal. -/

/-- Only the reply sent last and the receiver. -/
def OnlyReply (s t : State) : Prop := t = { s with reply := t.reply, rx := t.rx }

/-- Only the reply, the receiver, the notice queue and ATTN, the alarm unit, and the capture channels a raise triggers. -/
def OnlyAlarms (s t : State) : Prop :=
  t = { s with reply := t.reply, rx := t.rx, attn := t.attn, notices := t.notices, alarm := t.alarm,
               channels := t.channels }

/-- Beside those, only the lanes, the allocator and the output slots. -/
def OnlyAir (s t : State) : Prop :=
  t = { s with reply := t.reply, rx := t.rx, attn := t.attn, notices := t.notices, alarm := t.alarm,
               channels := t.channels, lanes := t.lanes, air := t.air, slots := t.slots }

/-- Beside the alarms, only the power budget, the blowers, the pumps, the pump cap, and the output slots. -/
def OnlyPower (s t : State) : Prop :=
  t = { s with reply := t.reply, rx := t.rx, attn := t.attn, notices := t.notices, alarm := t.alarm,
               channels := t.channels, slots := t.slots, budget := t.budget, blowers := t.blowers, trains := t.trains,
               plant := t.plant }

/-- Everything that control reaches: the lanes, the allocator, the blowers with their online order, the header, the
power budget, the trains, the plant record, the slots and the alarms. The points, the hubs, the link, the duty list and
the clocks stay. -/
def OnlyControl (s t : State) : Prop :=
  t = { s with reply := t.reply, rx := t.rx, attn := t.attn, notices := t.notices, alarm := t.alarm,
               channels := t.channels, slots := t.slots, lanes := t.lanes, air := t.air, blowers := t.blowers,
               online := t.online, header := t.header, budget := t.budget, trains := t.trains, plant := t.plant }

/-! ### The alarm unit and the capture triggers -/

/-- What a trigger does at a channel that it concerns (R155): from `c` to `d`. -/
abbrev TriggerTaken (src : TriggerSource) (now : Nat) (c d : Channel) : Prop :=
  (c.state = .primed → d = { c with state := .triggered, trigger := some ⟨src, now, c.ring.length⟩,
                                    postRemaining := 256 - c.fields.preCount }) ∧
  (c.state = .frozen → d = { c with missed := true }) ∧ (c.state = .idle ∨ c.state = .triggered → d = c)

/-- A raise of entry `e` concerns the channel (R155): its mask is not 0, and its alarm match entry agrees with `e` in every
bit that is 1 in the mask. -/
abbrev Channel.concerned (c : Channel) (e : AlarmId) : Prop :=
  c.fields.matchMask ≠ 0 ∧
    ∀ i, c.fields.matchMask.testBit i = true → e.val.testBit i = c.fields.matchEntry.testBit i

/-- The capture channels after a raise of entry `e` (R155). -/
abbrev AlarmTriggers (e : AlarmId) (s t : State) : Prop :=
  ∀ k, ((s.channel k).concerned e → TriggerTaken (.alarm e) s.uptime (s.channel k) (t.channel k)) ∧
    (¬ (s.channel k).concerned e → t.channel k = s.channel k)

/-- The alarm history after the record `r` (R147): `r` at the end; of 128 records the oldest is dropped, the wrapped flag is
set, and HISTORY_WRAPPED is posted where the flag was clear. -/
abbrev Appends (r : HistoryRecord) (s t : State) : Prop :=
  (s.alarm.history.length < 128 → t.alarm.history = s.alarm.history ++ [r] ∧ t.alarm.wrapped = s.alarm.wrapped) ∧
  (128 ≤ s.alarm.history.length → t.alarm.history = s.alarm.history.tail ++ [r] ∧ t.alarm.wrapped = true ∧
    (s.alarm.wrapped = false → ∃ n ∈ t.notices, n.source = .alarm ∧ n.causes &&& 4#8 = 4#8))

/-- The entry after a raise on `s` (R135, R137). -/
def State.raised (s : State) (r : Entry) : Entry :=
  { r with
    state := .activeUnack, onTimer := none, shelf := none,
    stamp := if r.state = .clearedUnack then r.stamp else s.uptime, raises := heldAdd 255 r.raises,
    escTimer := if 0 < s.alarm.escThreshold ∧ r.priority ≤ s.alarm.escThreshold ∧ r.stage < 2 then
      some s.alarm.escTime else r.escTimer }

/-- A raise of entry `e`, from `s` to `t` (R135): the entry, its record, the notice, the capture triggers. -/
abbrev Raises (e : AlarmId) (s t : State) : Prop :=
  t.entry e = s.raised (s.entry e) ∧ (∀ x, x ≠ e → t.entry x = s.entry x) ∧
  Appends ⟨e, .raised, (s.entry e).stage, s.uptime⟩ s t ∧
  (∃ n ∈ t.notices, n.source = .alarm ∧ n.causes &&& 1#8 = 1#8) ∧ AlarmTriggers e s t ∧ OnlyAlarms s t

/-- The end of the condition of entry `e`, in ACTIVE_UNACK or ACTIVE_ACK, from `s` to `t` (R136). -/
abbrev Returns (e : AlarmId) (s t : State) : Prop :=
  t.entry e = { s.entry e with
    state := if (s.entry e).state = .activeUnack then .clearedUnack else .normal, clearTimer := none,
    escTimer := if (s.entry e).state = .activeUnack then none else (s.entry e).escTimer } ∧
  (∀ x, x ≠ e → t.entry x = s.entry x) ∧ Appends ⟨e, .returned, (s.entry e).stage, s.uptime⟩ s t ∧
  t.channels = s.channels ∧ OnlyAlarms s t

/-- An object's suppression flag takes the value `v`, from `s` to `t`, where it was another (R141): the object's entries
`es` enter SUPPRESSED, or leave it and act on their conditions; every other entry stays. -/
abbrev FlagTaken (es : List AlarmId) (v : Bool) (s t : State) : Prop :=
  (∀ e, e ∉ es → t.entry e = s.entry e) ∧ OnlyAlarms s t ∧
  (v = true → t.notices = s.notices ∧ t.channels = s.channels ∧ t.alarm.history = s.alarm.history ∧
    ∀ e ∈ es, ((s.entry e).state = .disabled → t.entry e = s.entry e) ∧
      ((s.entry e).state ≠ .disabled → t.entry e = { s.entry e with
        state := .suppressed, onTimer := none, clearTimer := none, shelf := none, stage := 0, escTimer := none })) ∧
  (v = false → ∀ e ∈ es,
    ((s.entry e).state ≠ .suppressed → t.entry e = s.entry e) ∧
    ((s.entry e).state = .suppressed →
      ((s.entry e).condition = false → t.entry e = { s.entry e with state := .normal }) ∧
      ((s.entry e).condition = true → 0 < (s.entry e).onDelay →
        t.entry e = { s.entry e with state := .onDelay, onTimer := some (s.entry e).onDelay }) ∧
      ((s.entry e).condition = true → (s.entry e).onDelay = 0 → t.entry e = s.raised (s.entry e) ∧
        ∃ n ∈ t.notices, n.source = .alarm ∧ n.causes &&& 1#8 = 1#8)))

/-! ### A hub's change of state -/

/-- Hub `h` takes the record `r`, from `s` to `u` (R163, R165, R168, R170): its points are judged afresh, with no sample, an
ANALOG point that becomes GOOD restarting its filter; HUB_CHANGED is posted; every other record stays. -/
abbrev HubChanged (h : HubId) (r : Hub) (s u : State) : Prop :=
  u = { s with hubs := s.hubs.set h r, points := u.points, notices := postTo .link 1#8 s.uptime s.notices } ∧
  (∀ p, hubOfPoint p ≠ h → u.point p = s.point p) ∧
  (∀ p, hubOfPoint p = h →
    u.point p = { s.point p with quality := (s.point p).judge r.present, value := (u.point p).value,
                                 filterState := (u.point p).filterState } ∧
    ((u.point p).quality = .good → (s.point p).quality ≠ .good → (s.point p).kind = .analog →
      (u.point p).filterState = (s.point p).scaled ∧ (u.point p).value = valueOf (s.point p).scaled) ∧
    ((u.point p).quality ≠ .good ∨ (s.point p).quality = .good ∨ (s.point p).kind = .discrete →
      (u.point p).value = (s.point p).value ∧ (u.point p).filterState = (s.point p).filterState))

/-! ### Starts and the speed range -/

/-- A blower's START request on `s`, with its outcome in `t` (R71, R72, R98): the start allowance plus the run kW, class 1
exactly where another blower is ONLINE or STARTING. In NORMAL with nothing waiting and an amount that fits it is admitted at
once; else it waits, placed by its class. -/
abbrev StartAsked (b : BlowerId) (c : BlowerFields) (origin : Origin) (copy : SeqFields) (s t : State) : Prop :=
  ∀ kw cls : Nat, kw = copy.startAllowance + c.runKw →
    cls = (if ∃ x, x ≠ b ∧ (s.blower x).state.turning = true then 1 else 0) →
    0 < kw → s.budget.waitOf (.blower b) = none →
    (s.budget.shedding = false → s.budget.waits = [] → s.budget.fits kw = true →
      (t.blower b).state = .starting .blowoffOpen origin copy ∧ (t.blower b).power = .start ∧
      (t.blower b).stepTimer = some (50 * copy.blowoffTime) ∧
      t.budget = { s.budget with commits := s.budget.commits ++ [⟨.blower b, .start, kw, s.uptime⟩] }) ∧
    (s.budget.shedding = true ∨ s.budget.waits ≠ [] ∨ s.budget.fits kw = false →
      (t.blower b).state = .starting .waitPower origin copy ∧ (t.blower b).power = .waiting ∧
      (t.blower b).stepTimer = none ∧
      t.budget = { s.budget with waits := placePower ⟨.blower b, cls, kw, s.uptime⟩ s.budget.waits })

/-- A change of the online order, or of an ONLINE blower's speeds, from `s` to `t` (R90): with no blower online the range is
absent, the common speed stands and the previous error is absent. Otherwise the range goes from the largest min speed, or the
smallest max speed if that is lower, to the smallest max speed among the online blowers, and the common speed is clamped to
it and written to every blower ONLINE and, within its copy's range, in LOADING. UNLOADING keeps its speed. -/
abbrev SpeedRangeTaken (s t : State) : Prop :=
  (t.online = [] → t.header = { s.header with range := none, previousError := none }) ∧
  (∀ x y cx cy, x ∈ t.online → y ∈ t.online → (t.blower x).config = some cx → (t.blower y).config = some cy →
    (∀ z c, z ∈ t.online → (t.blower z).config = some c →
      c.seq.minSpeed ≤ cx.seq.minSpeed ∧ cy.seq.maxSpeed ≤ c.seq.maxSpeed) →
    ∀ lo hi : Nat, hi = cy.seq.maxSpeed → lo = min cx.seq.minSpeed hi →
      t.header = { s.header with range := some (lo, hi), commonSpeed := clampNat lo hi s.header.commonSpeed } ∧
      (s.SlotsClaimed → ∀ w c, (t.blower w).config = some c →
        ((t.blower w).state = .online → t.drives c.speedSlot t.header.commonSpeed) ∧
        (∀ origin copy, (t.blower w).state = .starting .loading origin copy →
          t.drives c.speedSlot (clampNat copy.minSpeed copy.maxSpeed t.header.commonSpeed)))) ∧
  (s.SlotsClaimed → ∀ w c, (t.blower w).config = some c → (s.blower w).state = .stopping .unloading →
    (t.blower w).state = .stopping .unloading → ∀ q : SlotId, q.val = c.speedSlot → t.slot q = s.slot q)

/-! ### What a lane period in AUTO reads -/

/-- The setpoint in use that stage 2 gives (R12), with the NH4 point GOOD where the cascade reads it; none where it is
not. -/
def State.setpointInUse (s : State) (l : LaneId) (c : LaneFields) : Option Nat :=
  if s.plant.storm then some c.stormSetpoint
  else if c.cascadeEnable = 0 then some c.doSetpoint
  else (c.nh4Point.bind s.goodValue).map (fun nh4 =>
    if (s.lane l).periodNumber % c.cascadeDivider = 0 then cascadeSetpoint c nh4 else (s.lane l).cascaded)

/-- The loop's demand on a setpoint before its clamp (R13, R14); none while the DO point is not GOOD. -/
def State.demandOn (s : State) (l : LaneId) (c : LaneFields) (setpoint : Nat) : Option Int :=
  (s.goodValue c.doPoint).map (fun v =>
    loopDemand c (s.lane l) ((setpoint : Int) - v) ((loadAfter s c (s.lane l).load).2.getD 0))

/-- The loop's demand before its clamp, with both inputs GOOD. -/
def State.autoDemand (s : State) (l : LaneId) (c : LaneFields) : Option Int :=
  (s.setpointInUse l c).bind (s.demandOn l c)

/-- The checks of stages 1, 2 and 4 find nothing (R29): the lane is in MANUAL, or in AUTO with its inputs GOOD and a demand
within its range before the clamp. -/
def State.checksPass (s : State) (l : LaneId) (c : LaneFields) : Prop :=
  (s.lane l).mode = .manual ∨
    ((s.lane l).mode = .auto ∧ ∃ d : Int, s.autoDemand l c = some d ∧ (c.minAir : Int) ≤ d ∧ d ≤ c.maxAir)

/-- No fault that a check finds abandons the period (R30): none is enabled, or one is held, or the gate is CLOSED, or the
fault mode is CONTINUE. -/
def Lane.neverLatches (r : Lane) : Prop :=
  r.faultConfig.enabled = 0 ∨ r.cause.isSome = true ∨ r.gateOpen = false ∨ r.faultConfig.continues = true

end Sys2Proof.Machine
end

