-- ==== Sys2Proof/Certificates/Slice0/Obligations.lean ====
section
/-! DEFINITION. The statements for the provers: what the commands, the step and the resets do, by the rules of spec/. -/

open Sys2Proof Sys2Proof.Machine

/-! ### The step, the resets, the invariants -/

/-- A step takes the command at the front of the queue and runs it on the state with the queue's rest. -/
def Obligations.StepRunsFrontCommand : Prop :=
  ∀ (c : Instr) (rest : List Instr) (s : State),
    step { s with pending := c :: rest } = exec c { s with pending := rest }

/-- No command stops the part, and none touches the queue of commands waiting behind it; with no command waiting the part
idles (the model's choice, assumption log 2). -/
def Obligations.EveryCommandGoesOnAndKeepsTheQueue : Prop :=
  (∀ (c : Instr) (s : State), ∃ t, Runs c s t ∧ t.pending = s.pending) ∧
  (∀ s : State, s.pending = [] → step s = .next s)

/-- COLD_RESET (R189, with R66, R95, R109, R129, R151, R159, R181): from any state, the cold values, the straps' speed, one
COLD_RESET record in the queue and ATTN asserted. The RESET pin held (R189): ATTN released, the alarm lines off, a frame
being received or sent lost; every command but the two resets then changes nothing. -/
def Obligations.ColdResetAndResetPin : Prop :=
  (∀ (strap1 strap0 : Bool) (s : State), ∃ t, Runs (.coldReset strap1 strap0) s t ∧
    t = { State.cold strap1 strap0 with pending := s.pending } ∧
    t.baud.rate = (match strap1, strap0 with
      | false, false => 19200
      | false, true => 38400
      | true, false => 115200
      | true, true => 230400) ∧
    t.held = false ∧ t.uptime = 0 ∧ t.attn = true ∧ t.notices = [{ source := .host, causes := 1#8, posted := 0 }] ∧
    (∀ h, (t.hub h).present = false ∧ (t.hub h).missCount = 0 ∧ (t.hub h).goodCount = 0 ∧ (t.hub h).latch = none ∧
      (t.entry (hubEntry h)).condition = true) ∧
    (∀ p, (t.point p).kind = .unused ∧ (t.point p).spanLow = 0 ∧ (t.point p).spanHigh = 1 ∧
      (t.point p).staleLimit = 25 ∧ (t.point p).raw = 0 ∧ (t.point p).value = 0 ∧ (t.point p).age = 255 ∧
      (t.point p).maint = none ∧ (t.point p).quality = .unbound) ∧
    (∀ q, (t.slot q).claimant = .none ∧ (t.slot q).value = 0 ∧ (t.slot q).valid = false) ∧
    (∀ l, (t.lane l).mode = .unconfigured ∧ t.grant l = 0) ∧ (∀ b, (t.blower b).state = .unconfigured) ∧
    (∀ k, (t.train k).state = .unconfigured) ∧ (∀ e, (t.entry e).state = .disabled ∧ (t.entry e).priority = 0) ∧
    t.air.capacity = [] ∧ t.air.queue = [] ∧ t.duty = [] ∧ t.online = [] ∧ t.budget.ceiling = none ∧
    t.budget.commits = [] ∧ t.plant.storm = false ∧ t.alarm.history = [] ∧ t.alarm.escTime = 900 ∧
    (∀ k, (t.channel k).state = .idle ∧ (t.channel k).ring = [])) ∧
  (∀ s : State, ∃ t, Runs .resetPinAsserted s t ∧ t.held = true ∧ t.attn = false ∧ t.alarm.horn = false ∧
    t.alarm.beacon = .off ∧ t.alarm.dialOut = false ∧ t.notices = s.notices ∧ t.hubs = s.hubs ∧ t.points = s.points ∧
    t.slots = s.slots ∧ t.lanes = s.lanes ∧ t.rx = [] ∧ t.restarting = false ∧
    t.reply = (if s.restarting then none else s.reply)) ∧
  (∀ (c : Instr) (s : State), s.held = true → (∀ x y, c ≠ .coldReset x y) → c ≠ .resetPinAsserted → Runs c s s)

/-- After every step the lines follow the records, if they did before it (R143 to R145, R186, R189), and what they then are
in terms of the notice queue and the alarm entries: ATTN is asserted exactly while a notice waits; the horn is on exactly
while some entry in ACTIVE_UNACK is more urgent than the silenced level, which is NONE with no entry in ACTIVE_UNACK; the
beacon flashes exactly while some entry has stage 1 or 2, and is otherwise steady exactly while some entry is in ACTIVE_UNACK
or CLEARED_UNACK; the dial-out line is on exactly while some entry has stage 2. -/
def Obligations.EveryStepKeepsLinesFollow : Prop :=
  (∀ s t : State, s.LinesFollow → step s = .next t → t.LinesFollow) ∧
  (∀ s : State, s.LinesFollow → s.held = false →
    (s.attn = true ↔ s.notices ≠ []) ∧
    (s.alarm.horn = true ↔ ∃ e, (s.entry e).state = .activeUnack ∧
      ∀ n, s.alarm.silenced = some n → (s.entry e).priority < n) ∧
    ((∀ e, (s.entry e).state ≠ .activeUnack) → s.alarm.silenced = none) ∧
    (s.alarm.beacon = .flashing ↔ ∃ e, (s.entry e).stage = 1 ∨ (s.entry e).stage = 2) ∧
    (s.alarm.beacon = .steady ↔ (∀ e, (s.entry e).stage ≠ 1 ∧ (s.entry e).stage ≠ 2) ∧
      ∃ e, (s.entry e).state = .activeUnack ∨ (s.entry e).state = .clearedUnack) ∧
    (s.alarm.dialOut = true ↔ ∃ e, (s.entry e).stage = 2) ∧
    (s.alarm.beaconLit = true ↔ s.alarm.beacon = .steady ∨ (s.alarm.beacon = .flashing ∧ s.alarm.beaconFrames < 25)))

/-- The lines follow the records, the queues are within bounds, the allocator, the power budget and the output slots are in
order and nothing waits in the state after reset. -/
def Obligations.InvariantsHoldAtReset : Prop :=
  State.reset.LinesFollow ∧ State.reset.OneRecordPerSource ∧ State.reset.HistoryFits ∧ State.reset.AirInOrder ∧
    State.reset.PowerInOrder ∧ State.reset.OutputsFollow ∧ State.reset.pending = []

/-- After every step the notice queue holds at most one record per source (R186) and the alarm history queue at most 128
records (R147), if they did before it. -/
def Obligations.EveryStepKeepsTheQueuesInBounds : Prop :=
  ∀ s t : State, s.OneRecordPerSource → s.HistoryFits → step s = .next t → t.OneRecordPerSource ∧ t.HistoryFits

/-! ### Requests in general (R184, R185, R190) -/

/-- Which frames are refused and which discarded, and the receiver (R184, R185, R80, R113). A request whose length byte
discards its frame, or that comes behind a frame begun before it, is received byte by byte. The receiver ignores the bytes
before a start byte; a length byte of 0 or above 250, or a CRC-16 that does not match, discards the frame; a frame still
short of its end is held; the request of a complete one is taken, and the receiver goes on behind it. Which bytes a row
gives the receiver is the model's (assumption log 27). A length byte other than the one the kind's fields give is refused
BAD_LENGTH; a list's count out of range is refused RANGE in a frame of a length its kind allows, BAD_LENGTH in any other
(assumption log 8). An unknown kind is refused UNKNOWN_KIND, an unknown blower or pump command RANGE. A frame discarded for
its length byte, its CRC, a gap in its bytes or a reply under way gets no reply and has no effect on a record. -/
def Obligations.FramesRefusedOrDiscarded : Prop :=
  (∀ (c : Instr) (f : RequestFrame) (s : State), c.frame? = some f → s.held = false →
    s.rx ≠ [] ∨ badLength f.len = true → Runs c s (finish s (s.receiveBytes (frameBytes f.kind f.len f.body)))) ∧
  (∀ (c : Instr) (f : RequestFrame) (s : State), c.frame? = some f → s.listening = true → badLength f.len = false →
    f.len ≠ 1 + bodySize f.body →
    (∀ len n curve, c = .laneCurve len n curve → 2 ≤ curve.length ∧ curve.length ≤ 8) →
    (∀ len n g, c = .trainSet len n g → 1 ≤ g.lanes.length ∧ g.lanes.length ≤ 4) → Refuses c s f.kind .badLength) ∧
  (∀ (s : State) (len n : Nat) (curve : List (Nat × Nat)), s.listening = true → 1 ≤ len → len ≤ 250 →
    curve.length < 2 ∨ 8 < curve.length →
    (len < 11 ∨ 35 < len → Refuses (.laneCurve len n curve) s 0x11 .badLength) ∧
    (11 ≤ len → len ≤ 35 → Refuses (.laneCurve len n curve) s 0x11 .range)) ∧
  (∀ (s : State) (len n : Nat) (f : TrainFields), s.listening = true → 1 ≤ len → len ≤ 250 →
    f.lanes = [] ∨ 4 < f.lanes.length →
    (len < 34 ∨ 37 < len → Refuses (.trainSet len n f) s 0x38 .badLength) ∧
    (34 ≤ len → len ≤ 37 → Refuses (.trainSet len n f) s 0x38 .range)) ∧
  (∀ (s : State) (len : Nat) (duty : List Nat), s.listening = true → 1 ≤ len → len ≤ 250 → 6 < duty.length →
    Refuses (.dutySet len duty) s 0x2A .badLength) ∧
  (∀ (s : State) (kind : Nat) (body : List Byte), s.listening = true → ¬ kind ∈ requestKinds → body.length ≤ 249 →
    Refuses (.unknownKindRequest kind body) s kind .unknownKind) ∧
  (∀ (s : State) (n code : Byte), s.listening = true → 4 < code.toNat →
    Refuses (.unknownKindRequest 0x29 [n, code]) s 0x29 .range ∧
    Refuses (.unknownKindRequest 0x39 [n, code]) s 0x39 .range) ∧
  (∀ (s : State) (bytes : List Byte), s.held = false → s.LinesFollow →
    (discardable (s.rx ++ bytes) = true → Runs (.hostFrameDiscarded bytes) s (finish s (s.receiveBytes bytes))) ∧
    (discardable (s.rx ++ bytes) = false → Runs (.hostFrameDiscarded bytes) s s) ∧
    Runs (.interbyteTimeout bytes) s { s with rx := [] } ∧
    (∀ kind : Nat, Runs (.frameDuringReply kind bytes) s { s with rx := [] })) ∧
  (∀ (s : State) (bytes : List Byte), s.receiveBytes bytes = State.receiveBytes (s.rx ++ bytes) { s with rx := [] }) ∧
  (∀ s : State, s.rx = [] →
    s.receiveBytes [] = s ∧ s.receiveBytes [0x7E#8] = { s with rx := [0x7E#8] } ∧
    (∀ before bytes : List Byte, (∀ x ∈ before, x ≠ 0x7E#8) → s.receiveBytes (before ++ bytes) = s.receiveBytes bytes) ∧
    (∀ (len : Byte) (rest : List Byte),
      (badLength len.toNat = true → s.receiveBytes (0x7E#8 :: len :: rest) = s.receiveBytes rest) ∧
      (badLength len.toNat = false → rest.length < len.toNat + 2 →
        s.receiveBytes (0x7E#8 :: len :: rest) = { s with rx := 0x7E#8 :: len :: rest })) ∧
    (∀ (len kind low high : Byte) (body rest : List Byte), badLength len.toNat = false → len.toNat = 1 + body.length →
      ([low, high] ≠ bytesLE 2 (crc16 (len :: kind :: body)).toNat →
        s.receiveBytes (0x7E#8 :: len :: kind :: (body ++ low :: high :: rest)) = s.receiveBytes rest) ∧
      ([low, high] = bytesLE 2 (crc16 (len :: kind :: body)).toNat →
        s.receiveBytes (0x7E#8 :: len :: kind :: (body ++ low :: high :: rest)) =
          State.receiveBytes rest ((frameRequest kind.toNat body).after s))))

/-- The bytes of every request's frame carry the request (R184, R191, section 11.2): for every command that is a request
with operands within their fields, the request read back from its body is the one the command runs, and its frame, received
byte by byte, has that request taken at its completion. -/
def Obligations.FramesCarryTheirRequests : Prop :=
  ∀ (c : Instr) (f : RequestFrame) (s : State), c.frame? = some f → c.wf = true → f.len = 1 + bodySize f.body →
    s.rx = [] →
    Runs c s ((frameRequest f.kind (bodyBytes f.body)).after s) ∧
    s.receiveBytes (frameBytes f.kind f.len f.body) = (frameRequest f.kind (bodyBytes f.body)).after s

/-- A number that names no lane, blower, train, hub, point, channel or entry is refused RANGE. -/
def Obligations.NumberOutOfRangeIsRefused : Prop :=
  ∀ (s : State) (n a b v : Nat), s.listening = true →
    (12 ≤ n →
      Refuses (.laneMode 3 n a) s 0x12 .range ∧ Refuses (.laneManualAir 4 n a) s 0x13 .range ∧
      Refuses (.laneGate 3 n a) s 0x15 .range ∧ Refuses (.laneRelease 2 n) s 0x16 .range ∧
      Refuses (.laneRead 3 n a) s 0x17 .range ∧ Refuses (.laneFaultRead 3 n a) s 0x18 .range ∧
      (∀ f, Refuses (.laneSet 54 n f) s 0x10 .range) ∧ (∀ f, Refuses (.laneFaultSet 6 n f) s 0x14 .range) ∧
      (∀ curve : List (Nat × Nat), 2 ≤ curve.length → curve.length ≤ 8 →
        Refuses (.laneCurve (3 + 4 * curve.length) n curve) s 0x11 .range)) ∧
    (6 ≤ n →
      Refuses (.blowerStart 3 n) s 0x29 .range ∧ Refuses (.blowerStop 3 n) s 0x29 .range ∧
      Refuses (.blowerReset 3 n) s 0x29 .range ∧ Refuses (.blowerLockout 3 n) s 0x29 .range ∧
      Refuses (.blowerUnlock 3 n) s 0x29 .range ∧ Refuses (.blowerRead 3 n a) s 0x2C .range ∧
      Refuses (.dutySet 3 [n]) s 0x2A .range ∧ (∀ f, Refuses (.blowerSet 35 n f) s 0x28 .range)) ∧
    (4 ≤ n →
      Refuses (.pumpStart 3 n) s 0x39 .range ∧ Refuses (.pumpStop 3 n) s 0x39 .range ∧
      Refuses (.pumpReset 3 n) s 0x39 .range ∧ Refuses (.pumpLockout 3 n) s 0x39 .range ∧
      Refuses (.pumpUnlock 3 n) s 0x39 .range ∧ Refuses (.trainRead 3 n a) s 0x3C .range ∧
      Refuses (.hubRead 2 n) s 0x04 .range ∧ Refuses (.captureArm 2 n) s 0x51 .range ∧
      (n ≠ 255 → Refuses (.captureTrigger 2 n) s 0x52 .range) ∧ Refuses (.captureRead 4 n a b) s 0x53 .range ∧
      Refuses (.captureRelease 2 n) s 0x54 .range ∧ (∀ f, Refuses (.captureSet 10 n f) s 0x50 .range) ∧
      (∀ f : TrainFields, 1 ≤ f.lanes.length → f.lanes.length ≤ 4 →
        Refuses (.trainSet (33 + f.lanes.length) n f) s 0x38 .range)) ∧
    (96 ≤ n → Refuses (.pointRead 3 n a) s 0x02 .range ∧ Refuses (.pointMaint 4 n a) s 0x03 .range ∧
      (∀ f, Refuses (.pointSet 13 n f) s 0x01 .range)) ∧
    (104 ≤ n →
      Refuses (.alarmSet 7 n a b v) s 0x40 .range ∧ (n ≠ 255 → Refuses (.alarmAck 2 n) s 0x42 .range) ∧
      Refuses (.alarmShelve 6 n a) s 0x43 .range ∧ Refuses (.alarmUnshelve 2 n) s 0x44 .range)

/-! ### Reads: the reply, and nothing else changes -/

/-- LANE_READ's three parts and LANE_FAULT_READ, which carries the values from before any clearing (R25, R43). The target
and the window of a move are sent absent in IDLE (assumption log 18). -/
def Obligations.LaneReads : Prop :=
  ∀ (s : State) (l : LaneId), s.Hears →
    Answers (.laneRead 3 l 2) s s 0x17 (laneDynamic s l) ∧
    (∀ c, (s.lane l).config = some c → Answers (.laneRead 3 l 0) s s 0x17 c.wire) ∧
    (∀ c, (s.lane l).config = some c → (s.lane l).curve ≠ [] →
      Answers (.laneRead 3 l 1) s s 0x17 (curveWire (s.lane l).curve)) ∧
    ((s.lane l).config = none →
      Refuses (.laneRead 3 l 0) s 0x17 .unconfigured ∧ Refuses (.laneRead 3 l 1) s 0x17 .unconfigured) ∧
    ((s.lane l).curve = [] → Refuses (.laneRead 3 l 1) s 0x17 .unconfigured) ∧
    (∀ part, 2 < part → Refuses (.laneRead 3 l part) s 0x17 .range) ∧
    Answers (.laneFaultRead 3 l 0) s s 0x18 (laneFaultBody (s.lane l)) ∧
    Answers (.laneFaultRead 3 l 1) s (s.setLane l { s.lane l with sticky := 0, openLoopSticky := false }) 0x18
      (laneFaultBody (s.lane l)) ∧
    (∀ clear, 1 < clear → Refuses (.laneFaultRead 3 l clear) s 0x18 .range)

/-- POINT_READ, HUB_READ, AIR_READ, BUDGET_READ, BLOWER_READ, HEADER_READ and TRAIN_READ (R65, R93, R94, R108, R128, R173,
R180). Layouts that chapter 11 does not give are the model's (assumption log 18), and so are the whole reply of a POINT_READ
that is longer than a frame (log 19) and the positions and the guard time of BLOWER_READ (log 32). -/
def Obligations.RecordReadsChangeNothing : Prop :=
  ∀ s : State, s.Hears →
    (∀ first count, first ≤ 95 → 1 ≤ count → count ≤ 16 → first + count ≤ 96 →
      Answers (.pointRead 3 first count) s s 0x02
        (.u8 count :: ((s.points.toList.drop first).take count).flatMap Point.wire)) ∧
    (∀ first count, 95 < first ∨ count = 0 ∨ 16 < count ∨ 96 < first + count →
      Refuses (.pointRead 3 first count) s 0x02 .range) ∧
    (∀ h : HubId, Answers (.hubRead 2 h) s s 0x04 (hubBody s h)) ∧
    Answers (.airRead 1) s s 0x22 (airReadBody s) ∧ Answers (.budgetRead 1) s s 0x31 (budgetBody s) ∧
    Answers (.headerRead 1) s s 0x2D (headerBody s) ∧
    (∀ b : BlowerId, Answers (.blowerRead 3 b 2) s s 0x2C (blowerDynamic s b) ∧
      (∀ c, (s.blower b).config = some c → Answers (.blowerRead 3 b 0) s s 0x2C c.wire) ∧
      ((s.blower b).config = none → Refuses (.blowerRead 3 b 0) s 0x2C .unconfigured) ∧
      (∀ part, part ≠ 0 → part ≠ 2 → Refuses (.blowerRead 3 b part) s 0x2C .range)) ∧
    (∀ k : TrainId, Answers (.trainRead 3 k 2) s s 0x3C (trainDynamic s k) ∧
      Answers (.trainRead 3 k 3) s s 0x3C (plantBody s) ∧
      (∀ c, (s.train k).config = some c → Answers (.trainRead 3 k 0) s s 0x3C c.wire) ∧
      ((s.train k).config = none → Refuses (.trainRead 3 k 0) s 0x3C .unconfigured) ∧
      (∀ part, part ≠ 0 → part ≠ 2 → part ≠ 3 → Refuses (.trainRead 3 k part) s 0x3C .range))

/-- ALARM_LIST_READ and CAPTURE_READ in its two forms (R149, R157); IDENTIFY and STATUS_READ (R188), the status body as
section 11.5 lays it out. What IDENTIFY's codes are is left free (assumption log 16); the counts of a stopped channel
(log 17), the rows of the catalogue (log 18) and a page longer than a frame (log 19) are the model's. The active list that
ALARM_LIST_READ pages (R142) holds exactly the entries in its three states, each once, by priority, then first-raise stamp,
then entry number. -/
def Obligations.StatusAlarmAndCaptureReads : Prop :=
  (∀ u : AlarmUnit, u.activeList.Nodup ∧
    (∀ e : AlarmId, e ∈ u.activeList ↔ u.entries[e].state = .activeUnack ∨ u.entries[e].state = .activeAck ∨
      u.entries[e].state = .clearedUnack) ∧
    u.activeList.Pairwise (fun x y => u.entries[x].priority < u.entries[y].priority ∨
      (u.entries[x].priority = u.entries[y].priority ∧ (u.entries[x].stamp < u.entries[y].stamp ∨
        (u.entries[x].stamp = u.entries[y].stamp ∧ x < y))))) ∧
  ∀ s : State, s.Hears →
    (∀ page, page ≤ 6 →
      Answers (.alarmListRead 3 0 page) s s 0x46
        (wireList ((pageOf page s.alarm.activeList).map (activeRow s.alarm)) ++ s.alarm.summary) ∧
      Answers (.alarmListRead 3 1 page) s s 0x46
        (wireList ((pageOf page allEntries).map (catalogueRow s.alarm)) ++ s.alarm.summary)) ∧
    (∀ view page, 1 < view ∨ 6 < page → Refuses (.alarmListRead 3 view page) s 0x46 .range) ∧
    (∀ (k : ChannelId) (offset count : Nat), offset ≤ 255 → count ≤ 32 →
      (count = 0 → Answers (.captureRead 4 k offset count) s s 0x53 (captureStatus (s.channel k))) ∧
      (0 < count → (s.channel k).state = .frozen →
        Answers (.captureRead 4 k offset count) s s 0x53 (captureSamples (s.channel k) offset count)) ∧
      (0 < count → (s.channel k).state ≠ .frozen → Refuses (.captureRead 4 k offset count) s 0x53 .state)) ∧
    (∀ (k : ChannelId) (offset count : Nat), 255 < offset ∨ 32 < count →
      Refuses (.captureRead 4 k offset count) s 0x53 .range) ∧
    Answers (.identify 1) s s 0x60 identifyBody ∧
    Answers (.statusRead 1) s s 0x61
      [.u32 s.uptime, .u32 s.baud.rate, .u8 (if s.plant.storm then 1 else 0), .u8 s.plant.force.code,
       .u8 (if s.budget.shedding then 1 else 0), .u8 (if s.air.short then 1 else 0), s.air.freeze.wire,
       .u8 ((if (s.hub 0).present then 1 else 0) + ((if (s.hub 1).present then 2 else 0) +
         ((if (s.hub 2).present then 4 else 0) + ((if (s.hub 3).present then 8 else 0) + 0)))),
       .u8 s.notices.length, .u8 s.alarm.history.length, .u8 (if s.alarm.wrapped then 1 else 0),
       .u8 (s.alarm.silenced.getD 0)]

/-! ### Notices, hub requests, the service transaction -/

/-- NOTICE_READ (R187): the oldest record is removed and returned with the number left; EMPTY changes nothing; a posting
from the source just read makes a new record at the end. HUB_REQUEST_TAKE (R176): the latch is returned and emptied, and
the hub's busy flag is clear in the next outbound frame; EMPTY, its object index sent as absent (R191, assumption log 18),
changes nothing; HUB_READ leaves the latch in place. -/
def Obligations.NoticesAndHubRequestsTaken : Prop :=
  ∀ s : State, s.Hears →
    (s.notices = [] → Answers (.noticeRead 1) s s 0x62 [.u8 0xFF, .u8 0, .u32 0, .u8 0]) ∧
    (∀ n rest, s.notices = n :: rest → ∃ t, Answers (.noticeRead 1) s t 0x62
        [.u8 n.source.code, .u8 n.causes.toNat, .u32 n.posted, .u8 rest.length] ∧
      t = { s with notices := rest, attn := !rest.isEmpty } ∧
      (s.OneRecordPerSource → ∀ c : Cause,
        (t.notify n.source c).notices = rest ++ [{ source := n.source, causes := c.mask, posted := s.uptime }])) ∧
    (∀ n, 3 < n → Refuses (.hubRequestTake 2 n) s 0x05 .range) ∧
    (∀ (h : HubId) code index, (s.hub h).latch = some (code, index) → ∃ t,
      Answers (.hubRequestTake 2 h) s t 0x05 [.u8 code.code, .u8 index] ∧
      t = s.setHub h { s.hub h with latch := none } ∧ t.assemble.busy[h] = false) ∧
    (∀ h : HubId, (s.hub h).latch = none → Answers (.hubRequestTake 2 h) s s 0x05 [.u8 0, .u8 0xFF]) ∧
    (∀ h : HubId, ∃ t, Runs (.hubRead 2 h) s t ∧ t.hubs = s.hubs)

/-- HUB_SERVICE and SERVICE_RESULT (R177, R179). The state codes in the replies, and the 0 that each cleared field of the
IDLE transaction holds, are the model's (assumption log 14). -/
def Obligations.ServiceTransactionRequests : Prop :=
  (∀ (s : State) (code address value : Nat), s.Hears →
    (∀ n, 3 < n ∨ code = 0 → Refuses (.hubService 7 n code address value) s 0x06 .range) ∧
    (∀ h : HubId, 1 ≤ code → code ≤ 255 → s.service.state ≠ .idle →
      Refuses (.hubService 7 h code address value) s 0x06 .busy) ∧
    (∀ h : HubId, 1 ≤ code → code ≤ 255 → s.service.state = .idle → (s.hub h).present = true → ∃ t,
      Answers (.hubService 7 h code address value) s t 0x06 [.u8 1] ∧
      t = { s with service := ⟨.sent, h, code, address, value, 0, false⟩ } ∧
      t.assemble.service = some (h, code, address, value)) ∧
    (∀ h : HubId, 1 ≤ code → code ≤ 255 → s.service.state = .idle → (s.hub h).present = false → ∃ t,
      Answers (.hubService 7 h code address value) s t 0x06 [.u8 2] ∧
      t = { s with service := ⟨.done .absent 65535, h, code, address, value, 0, false⟩,
                   notices := postTo .link Cause.serviceDone.mask s.uptime s.notices, attn := true } ∧
      t.assemble.service = none)) ∧
  (∀ s : State, s.Hears →
    (s.service.state = .idle ∨ s.service.state = .sent → Refuses (.serviceResult 1) s 0x07 .state) ∧
    (∀ result value, s.service.state = .done result value → ∃ t,
      Answers (.serviceResult 1) s t 0x07
        [.u8 s.service.target.val, .u8 s.service.code, .u16 s.service.address, .u16 s.service.value, .u8 result.code,
         .u16 value] ∧
      t = { s with service := ⟨.idle, 0, 0, 0, 0, 0, false⟩ } ∧
      (∀ (h : HubId) (code address v : Nat), 1 ≤ code → code ≤ 255 → (s.hub h).present = true →
        ∃ u, Runs (.hubService 7 h code address v) t u ∧ u.service.state = .sent)))

/-! ### Points and hubs -/

/-- The quality of a point is the first case of R168's table that applies; the straight line of R166 and the filter step
of R169 are exact; a value is rounded once, to the nearest unit, halves away from zero (R169; 00_scope.md, Arithmetic).
Outside the signed 32-bit range the value is free (assumption log 13). -/
def Obligations.QualityScalingAndFilter : Prop :=
  (∀ (r : Point) (present : Bool),
    (r.kind = .unused → r.judge present = .unbound) ∧
    (r.kind ≠ .unused → present = false → r.judge present = .absent) ∧
    (r.kind ≠ .unused → present = true → r.maint.isSome → r.judge present = .maint) ∧
    (r.kind ≠ .unused → present = true → r.maint = none →
      (r.staleLimit < r.age → r.judge present = .stale) ∧
      (r.age ≤ r.staleLimit →
        (r.kind = .analog → 61500 < r.raw → r.judge present = .overrange) ∧
        (r.kind = .analog → r.raw < 11400 → r.judge present = .underrange) ∧
        (r.kind = .discrete ∨ (11400 ≤ r.raw ∧ r.raw ≤ 61500) → r.judge present = .good)))) ∧
  (∀ r : Point, ((r.scaled.num : ℚ) / r.scaled.den) =
    r.spanLow + ((r.raw : ℚ) - 12000) * ((r.spanHigh : ℚ) - r.spanLow) / 48000) ∧
  (∀ (n : Nat) (f x : Exact), 0 < f.den → 0 < x.den →
    (((filterStep n f x).num : ℚ) / (filterStep n f x).den) =
      (f.num : ℚ) / f.den + ((x.num : ℚ) / x.den - (f.num : ℚ) / f.den) / (n + 1)) ∧
  -- rounding, here and in every loop
  (∀ (num : Int) (den : Nat), 0 < den →
    2 * (num - roundDiv num den * den).natAbs ≤ den ∧
    (2 * (num - roundDiv num den * den).natAbs = den → num.natAbs < (roundDiv num den * den).natAbs)) ∧
  (∀ f : Exact, -2147483648 ≤ roundDiv f.num f.den → roundDiv f.num f.den ≤ 2147483647 →
    valueOf f = roundDiv f.num f.den)

/-- POINT_SET (R171): its refusals, and what a taken one leaves: the five fields replaced; raw, age and maintenance kept;
the quality judged afresh; a GOOD ANALOG point's filter restarted; no other record touched. POINT_MAINT (R172). That a
DISCRETE point that is GOOD afterwards keeps its value until its next sample is the model's (assumption log 29). -/
def Obligations.PointSetAndMaintTaken : Prop :=
  ∀ (s : State) (p : PointId) (f : PointFields) (time : Nat), s.Hears →
    (f.inRange = false → Refuses (.pointSet 13 p f) s 0x01 .range) ∧
    (f.inRange = true → boundAgainst s p (PointKind.ofCode f.kind) = true →
      Refuses (.pointSet 13 p f) s 0x01 .conflict) ∧
    (f.inRange = true → boundAgainst s p (PointKind.ofCode f.kind) = false → ∃ r : Point,
      Answers (.pointSet 13 p f) s (s.setPoint p r) 0x01 r.wire ∧
      r.kind = PointKind.ofCode f.kind ∧ r.spanLow = f.spanLow ∧ r.spanHigh = f.spanHigh ∧ r.filter = f.filter ∧
      r.staleLimit = f.staleLimit ∧ r.raw = (s.point p).raw ∧ r.age = (s.point p).age ∧
      r.maint = (s.point p).maint ∧ r.quality = r.judge (s.hubPresent p) ∧
      (r.quality = .good → r.kind = .analog → r.filterState = r.scaled ∧ r.value = valueOf r.scaled) ∧
      (r.quality ≠ .good ∨ r.kind = .discrete →
        r.value = (s.point p).value ∧ r.filterState = (s.point p).filterState)) ∧
    (7200 < time → Refuses (.pointMaint 4 p time) s 0x03 .range) ∧
    (time ≤ 7200 → (s.point p).kind = .unused → Refuses (.pointMaint 4 p time) s 0x03 .unconfigured) ∧
    (time ≤ 7200 → (s.point p).kind ≠ .unused → ∃ r : Point,
      Answers (.pointMaint 4 p time) s (s.setPoint p r) 0x03 [.u8 r.quality.code, optU16 r.maint] ∧
      r = { s.point p with maint := (if time = 0 then none else some time), quality := r.quality, value := r.value,
                           filterState := r.filterState } ∧
      r.quality = r.judge (s.hubPresent p) ∧
      (r.quality = .good → (s.point p).quality ≠ .good → r.kind = .analog →
        r.filterState = r.scaled ∧ r.value = valueOf r.scaled) ∧
      (r.quality ≠ .good ∨ (s.point p).quality = .good ∨ r.kind = .discrete →
        r.value = (s.point p).value ∧ r.filterState = (s.point p).filterState))

/-- A GOOD judgment (R162 to R165, R175): the hub's counts, state, wiring flag and mask, its latch, and its points'
frame updates; other hubs and their points, the clocks and the duty list stay. A request is latched where the period's
outbound frame carried the busy flag clear. That nothing is latched while no outbound frame has been sent yet, the case
`outbound = none` of the clause on the latch that stays, is the model's (assumption log 5). -/
def Obligations.GoodReturnUpdatesHubAndPoints : Prop :=
  ∀ (s : State) (h : HubId) (f : ReturnFrame), s.held = false → (s.hub h).judged = false → f.checkPasses = true →
    f.hubId.toNat = h.val → ∃ t, Runs (.returnFrameJudged h f) s t ∧
      (t.hub h).missCount = 0 ∧ (t.hub h).goodCount = heldAdd 255 (s.hub h).goodCount ∧
      (t.hub h).present = ((s.hub h).present || decide (2 ≤ (t.hub h).goodCount)) ∧ (t.hub h).wiring = false ∧
      (t.hub h).lastMask = f.mask ∧ (t.hub h).judged = true ∧
      ((s.hub h).latch.isSome → (t.hub h).latch = (s.hub h).latch) ∧
      ((s.hub h).latch = none → s.outbound.any (fun o => !o.busy[h]) = true →
        (t.hub h).latch = (HubCode.ofByte f.requestCode).map (fun code => (code, f.objectIndex.toNat))) ∧
      (s.outbound.any (fun o => !o.busy[h]) = false → (t.hub h).latch = (s.hub h).latch) ∧
      (∀ k : Fin 24, t.point ⟨24 * h.val + k.val, by omega⟩ =
        (s.point ⟨24 * h.val + k.val, by omega⟩).frame (t.hub h).present
          (if f.mask[k] then some f.samples[k] else none)) ∧
      (∀ p, hubOfPoint p ≠ h → t.point p = s.point p) ∧ (∀ h', h' ≠ h → t.hub h' = s.hub h') ∧
      t.duty = s.duty ∧ t.uptime = s.uptime ∧ t.frameCount = s.frameCount ∧ t.outbound = s.outbound ∧
      t.reply = s.reply

/-- A BAD or MISS judgment (R162 to R165): nothing of the frame is used, the hub's points age; a wrong hub ID sets the
wiring flag. -/
def Obligations.BadReturnOrMissAgesThePoints : Prop :=
  ∀ (s : State) (h : HubId) (c : Instr), s.held = false → (s.hub h).judged = false →
    (c = .returnMiss h ∨ ∃ f : ReturnFrame, c = .returnFrameJudged h f ∧
      (f.checkPasses = false ∨ f.hubId.toNat ≠ h.val)) → ∃ t, Runs c s t ∧
      (t.hub h).goodCount = 0 ∧ (t.hub h).missCount = heldAdd 255 (s.hub h).missCount ∧
      (t.hub h).present = ((s.hub h).present && decide ((t.hub h).missCount < 3)) ∧
      (t.hub h).lastMask = (s.hub h).lastMask ∧ (t.hub h).latch = (s.hub h).latch ∧ (t.hub h).judged = true ∧
      (∀ f : ReturnFrame, c = .returnFrameJudged h f → f.checkPasses = true → (t.hub h).wiring = true) ∧
      ((∀ f : ReturnFrame, c = .returnFrameJudged h f → f.checkPasses = false) →
        (t.hub h).wiring = (s.hub h).wiring) ∧
      (∀ k : Fin 24, t.point ⟨24 * h.val + k.val, by omega⟩ =
        (s.point ⟨24 * h.val + k.val, by omega⟩).frame (t.hub h).present none) ∧
      (∀ p, hubOfPoint p ≠ h → t.point p = s.point p) ∧ (∀ h', h' ≠ h → t.hub h' = s.hub h') ∧
      t.duty = s.duty ∧ t.uptime = s.uptime ∧ t.frameCount = s.frameCount ∧ t.outbound = s.outbound ∧
      t.reply = s.reply

/-- A judgment of a hub (R162, R70, R114, R21, R154, R178): a hub already judged in the period is not judged again; otherwise,
after the hub's record and points, the channels sample, the service transaction is acted on, and the readers of the hub's
points take their frame updates: the lanes, the blowers, the pumps, each in number order. R155 has the samples before the
triggers of the event, R81 and R117 have adoptions in number order; beyond these R165 gives the readers of a judgment no
order, and the order is the model's (assumption log 38), and so is what follows from it for a pump or a blower admitted in the
judgment (log 33), and that a judgment which takes the target hub to ABSENT leaves the transaction's frames carried as it
stood (log 36). -/
def Obligations.JudgmentRunsTheReaders : Prop :=
  ∀ (s : State) (h : HubId) (c : Instr) (o : Option ReturnFrame), s.held = false →
    ((c = .returnMiss h ∧ o = none) ∨ ∃ f : ReturnFrame, c = .returnFrameJudged h f ∧
      ((f.checkPasses = true ∧ f.hubId.toNat = h.val ∧ o = some f) ∨
        ((f.checkPasses = false ∨ f.hubId.toNat ≠ h.val) ∧ o = none))) →
    ((s.hub h).judged = true → s.LinesFollow → Runs c s s) ∧
    ((s.hub h).judged = false → ∃ u : State,
      Runs c s (finish s (forAll allTrains (State.pumpFrame h s) (forAll allBlowers (State.blowerFrame h s)
        (forAll allLanes (State.laneFeedback h) u)))) ∧
      u.lanes = s.lanes ∧ u.blowers = s.blowers ∧ u.trains = s.trains ∧ u.budget = s.budget ∧ u.air = s.air ∧
      u.slots = s.slots ∧ u.header = s.header ∧ u.online = s.online ∧ u.plant = s.plant ∧
      -- the capture channels
      (∀ k, (s.channel k).state = .idle ∨ (s.channel k).state = .frozen ∨
        onHub h (s.channel k).fields.point = false → (u.channel k).ring = (s.channel k).ring ∧
        (u.channel k).intervalCount = (s.channel k).intervalCount) ∧
      (∀ k, (s.channel k).state = .primed ∨ (s.channel k).state = .triggered →
        onHub h (s.channel k).fields.point = true →
        ((s.channel k).intervalCount + 1 < (s.channel k).fields.interval →
          (u.channel k).ring = (s.channel k).ring ∧ (u.channel k).intervalCount = (s.channel k).intervalCount + 1) ∧
        ((s.channel k).fields.interval ≤ (s.channel k).intervalCount + 1 → (u.channel k).intervalCount = 0 ∧
          ∃ x : Sample, x = ⟨(u.pointAt (s.channel k).fields.point).value, (u.pointAt (s.channel k).fields.point).quality⟩ ∧
            ((s.channel k).state = .primed →
              (u.channel k).ring = newest (s.channel k).fields.preCount ((s.channel k).ring ++ [x])) ∧
            ((s.channel k).state = .triggered → (u.channel k).ring = (s.channel k).ring ++ [x] ∧
              (u.channel k).postRemaining = (s.channel k).postRemaining - 1 ∧
              (u.channel k).state = (if (s.channel k).postRemaining ≤ 1 then .frozen else .triggered)))) ∧
      -- the service transaction
      (s.service.state ≠ .sent ∨ s.service.target ≠ h → u.service = s.service) ∧
      (s.service.state = .sent → s.service.target = h →
        ((s.hub h).present = true → (u.hub h).present = false →
          u.service = { s.service with state := .done .absent 65535, inFrame := false }) ∧
        ((s.hub h).present = false ∨ (u.hub h).present = true →
          (s.service.inFrame = false → u.service = s.service) ∧
          (∀ f, o = some f → s.service.inFrame = true → f.echo.toNat = s.service.code → u.service =
            { s.service with state := .done (if f.status = 0#8 then .ok else .refusedByHub) f.value.toNat,
                             inFrame := false }) ∧
          ((∀ f, o = some f → f.echo.toNat ≠ s.service.code) → s.service.inFrame = true →
            (s.service.carried + 1 < 10 → u.service = { s.service with carried := s.service.carried + 1 }) ∧
            (10 ≤ s.service.carried + 1 → u.service =
              { s.service with carried := s.service.carried + 1, state := .done .noAnswer 65535, inFrame := false })))))

/-- The events at a hub, a point and the service transaction (R163, R164, R168, R172, R178): each from the state in which it
can come about. A hub's change of state takes its record and its points, posts HUB_CHANGED and the hub's HUB_ABSENT condition,
which the alarm unit acts on as AlarmEntriesFollowTheirConditions says, and ends a transaction SENT to a lost hub; every
other record stays. What the rows bring the hub's counts to and POINT_STALE the age, and that HUB_PRESENT_ENTERED clears the
wiring flag where HUB_ABSENT_ENTERED leaves it, is the model's (assumption log 28), and so is that a DISCRETE point that
becomes GOOD keeps its value until its next sample (log 29). -/
def Obligations.HubAndPointEvents : Prop :=
  ∀ s : State, s.held = false → s.LinesFollow →
    (∀ h : HubId, (s.hub h).present = true → ∃ u t : State, Runs (.hubAbsentEntered h) s t ∧
      HubChanged h { s.hub h with present := false, missCount := max 3 (s.hub h).missCount, goodCount := 0 } s u ∧
      (∀ p, hubOfPoint p = h → (u.point p).quality = .unbound ∨ (u.point p).quality = .absent) ∧
      (s.service.state = .sent → s.service.target = h → t = finish s (State.notify { u.post (hubEntry h) true with
        service := { s.service with state := .done .absent 65535, inFrame := false } } .link .serviceDone)) ∧
      (s.service.state ≠ .sent ∨ s.service.target ≠ h →
        t = finish s (u.post (hubEntry h) true) ∧ t.service = s.service) ∧
      (t.entry (hubEntry h)).condition = true ∧ (∀ e, e ≠ hubEntry h → t.entry e = s.entry e) ∧
      (∃ n ∈ t.notices, n.source = .link ∧ n.causes &&& 1#8 = 1#8) ∧ t.attn = true ∧ t.reply = s.reply ∧ t.rx = s.rx ∧
      OnlyAlarms { s with hubs := u.hubs, points := u.points, service := t.service } t) ∧
    (∀ h : HubId, (s.hub h).present = false → ∃ u t : State, Runs (.hubPresentEntered h) s t ∧
      HubChanged h { s.hub h with present := true, goodCount := max 2 (s.hub h).goodCount, missCount := 0,
                                  wiring := false } s u ∧
      t = finish s (u.post (hubEntry h) false) ∧
      (t.entry (hubEntry h)).condition = false ∧ (∀ e, e ≠ hubEntry h → t.entry e = s.entry e) ∧
      (∃ n ∈ t.notices, n.source = .link ∧ n.causes &&& 1#8 = 1#8) ∧ t.attn = true ∧ t.reply = s.reply ∧ t.rx = s.rx ∧
      t.channels = s.channels ∧ OnlyAlarms { s with hubs := u.hubs, points := u.points } t) ∧
    (∀ p : PointId, ∃ r : Point, Runs (.pointStale p) s (s.setPoint p r) ∧ r.quality ≠ .good ∧
      r = { s.point p with age := max (s.point p).age ((s.point p).staleLimit + 1), quality := r.judge (s.hubPresent p) }) ∧
    (∀ p : PointId, (s.point p).maint.isSome → ∃ r : Point, Runs (.maintWindowEnd p) s (s.setPoint p r) ∧
      r = { s.point p with maint := none, quality := r.judge (s.hubPresent p), value := r.value,
                           filterState := r.filterState } ∧
      (r.quality = .good → (s.point p).quality ≠ .good → r.kind = .analog →
        r.filterState = r.scaled ∧ r.value = valueOf r.scaled) ∧
      (r.quality ≠ .good ∨ (s.point p).quality = .good ∨ r.kind = .discrete →
        r.value = (s.point p).value ∧ r.filterState = (s.point p).filterState)) ∧
    (s.service.state = .sent → Runs .serviceNoAnswer s
      { s with service := { s.service with carried := 10, state := .done .noAnswer 65535, inFrame := false },
               notices := postTo .link Cause.serviceDone.mask s.uptime s.notices, attn := true })

/-! ### The clock -/

/-- A frame period boundary (R160, R161): the outbound frame is the snapshot of the slots, latches and transaction; every
50th boundary is a second of uptime. A second of uptime (R160): the uptime is one more, and every maintenance window one
second shorter (R172). In it every timer that is counted in seconds goes down by one, and a blower that has waited the
second in WAIT_POWER counts it (R72), not one whose start begins in it; then those that have run out or past their limits act,
block by block: the alarm entries' timers (R134, R136, R140, R145), the maintenance windows, the freeze, starvation and
staging (R54, R53, R62, R63), the shed timer (R104), the waits for power (R72, R121), the lane, header, MOV and pacing
periods (R11, R91, R92, R119) and the storm evaluation (R124); the end of each is that of its event row. A hub not judged
in the period is judged MISS at its end (R162). Each judgment and each turn is an event of its own, which the lines follow
(R143, assumption log 34). The order of the blocks is the model's (log 7), and so is that the beacon's frame is counted
before the judgments (log 5). -/
def Obligations.BoundariesAndSeconds : Prop :=
  (∀ s : State, s.held = false → ∃ t, Runs .framePeriodBoundary s t ∧
    t.outbound = some s.endPeriod.assemble ∧ (∀ h, (t.hub h).judged = false) ∧
    ((s.outbound = none ∨ ∀ h, (s.hub h).judged = true) → s.endPeriod.assemble = s.assemble) ∧
    (∀ q : SlotId, s.assemble.commands[q] = if (s.slot q).valid then some (s.slot q).value else none) ∧
    (∀ h : HubId, s.assemble.busy[h] = (s.hub h).latch.isSome) ∧
    (s.service.state = .sent → s.assemble.service =
      some (s.service.target, s.service.code, s.service.address, s.service.value)) ∧
    (s.service.state ≠ .sent → s.assemble.service = none) ∧
    (s.frameCount + 1 < 50 → t.frameCount = s.frameCount + 1 ∧ t.uptime = s.uptime) ∧
    (50 ≤ s.frameCount + 1 → s.uptime < uptimeMax → t.frameCount = 0 ∧ t.uptime = s.uptime + 1) ∧
    t.reply = s.reply ∧ t.duty = s.duty) ∧
  -- the end of a period: one event for each hub not judged in it
  (∀ s v0 v1 v2 v3 v4 : State, s.held = false → v0 = { s with alarm := s.alarm.frame } →
    Runs (.returnMiss 0) v0 v1 → Runs (.returnMiss 1) v1 v2 → Runs (.returnMiss 2) v2 v3 → Runs (.returnMiss 3) v3 v4 →
    (s.outbound.isSome = true →
      s.endPeriod = { v4 with hubs := v4.hubs.map (fun r => { r with judged := false }) }) ∧
    (s.outbound = none → s.endPeriod = { v0 with hubs := v0.hubs.map (fun r => { r with judged := false }) })) ∧
  (∀ s : State, s.held = false → s.uptime < uptimeMax → ∃ t, Runs .uptimeSecond s t ∧
    t.uptime = s.uptime + 1 ∧
    (∀ p, (s.point p).maint = none → t.point p = s.point p) ∧
    (∀ p, (s.point p).maint = some 1 → (t.point p).maint = none) ∧
    (∀ p n, (s.point p).maint = some (n + 2) → t.point p = { s.point p with maint := some (n + 1) }) ∧
    t.hubs = s.hubs ∧ t.service = s.service ∧ t.outbound = s.outbound ∧ t.duty = s.duty ∧ t.reply = s.reply) ∧
  -- the timers counted down, then the turns
  (∀ s : State, s.held = false → s.uptime < uptimeMax → ∃ u : State,
    u = { s with uptime := s.uptime + 1, frameCount := 0, alarm := { s.alarm with entries := u.alarm.entries },
                 points := u.points, lanes := u.lanes, header := u.header, trains := u.trains, blowers := u.blowers,
                 budget := { s.budget with shedTimer := s.budget.shedTimer.map (· - 1) },
                 plant := { s.plant with timer := s.plant.timer.map (· - 1) } } ∧
    (∀ e, u.entry e = { s.entry e with
      onTimer := (s.entry e).onTimer.map (· - 1), clearTimer := (s.entry e).clearTimer.map (· - 1),
      shelf := (s.entry e).shelf.map (· - 1), escTimer := (s.entry e).escTimer.map (· - 1) }) ∧
    (∀ p, u.point p = { s.point p with maint := (s.point p).maint.map (· - 1) }) ∧
    (∀ l, u.lane l = { s.lane l with timer := (s.lane l).timer.map (· - 1) }) ∧
    (∀ k, u.train k = { s.train k with timer := (s.train k).timer.map (· - 1) }) ∧
    (∀ b, u.blower b = { s.blower b with result := (if (s.blower b).state.stepCode = 1 then
        (s.blower b).result.map (fun x => { x with waited := heldAdd 65535 x.waited })
      else (s.blower b).result) }) ∧
    u.header = { s.header with timer := s.header.timer.map (· - 1), movTimer := s.header.movTimer.map (· - 1) } ∧
    ∃ u1 u2 u3 u4 u5 u6 : State,
      u1 = takeTurns allPoints State.maintSecond (takeTurns allEntries State.entrySecond u) ∧
      u2 = u1.countFreeze.refresh.testStarvation.refresh.countShortfall.refresh.countSurplus.refresh ∧
      TurnOf .shedTimerExpiry (u2.budget.shedTimer = some 0) u2 u3 ∧
      u4 = takeTurns allLanes State.laneSecond (takeTurns allTrains State.pumpSecond
        (takeTurns allBlowers (fun b v => v.testDeferral b) u3.refresh)) ∧
      u5 = takeTurns allTrains State.trainSecond u4.headerSecond.refresh ∧
      TurnOf .stormEvaluation (u5.plant.timer = some 0) u5 u6 ∧ Runs .uptimeSecond s (finish s u6)) ∧
  -- each turn
  (∀ s : State,
    (∀ e, ∃ a b d : State, TurnOf (.onDelayEnd e) ((s.entry e).onTimer = some 0) s a ∧
      TurnOf (.clearingEnd e) ((a.entry e).clearTimer = some 0) a b ∧
      TurnOf (.shelfEnd e) ((b.entry e).shelf = some 0) b d ∧
      TurnOf (.escalation e) ((d.entry e).escTimer = some 0) d (State.entrySecond e s)) ∧
    (∀ p, TurnOf (.maintWindowEnd p) ((s.point p).maint = some 0) s (State.maintSecond p s)) ∧
    (∀ l, TurnOf (.lanePeriod l) ((s.lane l).timer = some 0) s (State.laneSecond l s)) ∧
    (∀ k, TurnOf (.pacingPeriod k) ((s.train k).timer = some 0) s (State.trainSecond k s)) ∧
    (∃ a : State, TurnOf .headerPeriod (s.header.timer = some 0) s a ∧
      TurnOf .movPeriod (a.header.movTimer = some 0) a s.headerSecond) ∧
    (∀ n, s.air.freeze = .seconds n →
      (1 < n → s.countFreeze = { s with air := { s.air with freeze := .seconds (n - 1) } }) ∧
      (n ≤ 1 → s.held = false → Runs .freezeEnd s (finish s s.countFreeze))) ∧
    (s.air.freeze = .none ∨ s.air.freeze = .indefinite → s.countFreeze = s) ∧
    (∀ l e, s.air.entryOf l = some e → (s.air.queue.map (·.lane)).Nodup →
      (s.air.params.starvationLimit < s.uptime - e.posted →
        s.testStarvation.air.entryOf l = some { e with starved := true } ∧
        (e.starved = false → (s.testStarvation.entry (starvedEntry l)).condition = true)) ∧
      (s.uptime - e.posted ≤ s.air.params.starvationLimit → s.testStarvation.air.entryOf l = some e ∧
        (s.testStarvation.entry (starvedEntry l)).condition = (s.entry (starvedEntry l)).condition)) ∧
    (∀ n, s.air.shortfall = some n →
      (1 < n → s.countShortfall = { s with air := { s.air with shortfall := some (n - 1) } }) ∧
      (n ≤ 1 → s.held = false → Runs .stageInWanted s (finish s s.countShortfall))) ∧
    (∀ n, s.air.surplus = some n →
      (1 < n → s.countSurplus = { s with air := { s.air with surplus := some (n - 1) } }) ∧
      (n ≤ 1 → s.held = false → Runs .stageOutWanted s (finish s s.countSurplus))) ∧
    (s.air.shortfall = none → s.countShortfall = s) ∧ (s.air.surplus = none → s.countSurplus = s) ∧
    (∀ b origin copy x, (s.blower b).state = .starting .waitPower origin copy → (s.blower b).result = some x →
      (copy.deferralLimit < x.waited → s.testDeferral b = s.post (startDeferredEntry b) true ∧
        (s.held = false → (s.blower b).config.isSome = true → Runs (.startDeferred b) s (finish s (s.testDeferral b)))) ∧
      (x.waited ≤ copy.deferralLimit → s.testDeferral b = s)) ∧
    (∀ b, (s.blower b).state.stepCode ≠ 1 → s.testDeferral b = s) ∧
    (∀ k, ∃ a : State, a = s.setTrain k { s.train k with
        increaseWait := (if (s.train k).increaseTarget.isSome then heldAdd 65535 (s.train k).increaseWait
          else (s.train k).increaseWait) } ∧
      State.pumpSecond k s = a.post (rasLimitedEntry k) ((a.train k).state == .running && (a.plant.pumpCap ||
        ((a.train k).increaseTarget.isSome && decide ((a.train k).limitedDelay < (a.train k).increaseWait)))) ∧
      (s.held = false → (s.train k).config.isSome = true → (s.train k).state = .running →
        (s.train k).increaseTarget.isSome = true → (a.train k).limitedDelay < (a.train k).increaseWait →
        Runs (.rasLimited k) a (finish a (State.pumpSecond k s)))))

/-! ### Lanes (chapters 1 and 2) -/

/-- LANE_SET (R1, R2): its refusals in their order, and what a taken one leaves: a changed valve slot released, at 0 and not
valid (R174), and the new one claimed; a queued lane whose air priority changes withdraws its entry and posts its amount
again, at the back of its new priority group, with what serving then gives it (R49, R48, R50); on any other lane the priority
in force stands until its next period. The correction limit in force stands until then on every lane. That the first
LANE_SET's priority and correction limit are in force at once is the model's (assumption log 30). -/
def Obligations.LaneSetTaken : Prop :=
  ∀ (s : State) (len : Nat) (l : LaneId) (f : LaneFields), s.Hears → lengthFor len (.u8 l :: f.wire) = true →
    (f.inRange = false → Refuses (.laneSet len l f) s 0x10 .range) ∧
    (f.inRange = true → (∃ g, (s.lane l).config = some g ∧ f.sameStructure g = false) →
      (s.lane l).mode.takesStructure = false → Refuses (.laneSet len l f) s 0x10 .state) ∧
    (f.inRange = true → ((s.lane l).config.all f.sameStructure = true ∨ (s.lane l).mode.takesStructure = true) →
      ((∃ p ∈ LaneFields.points f, (s.pointAt p).kind = .discrete) ∨ s.slotFree f.valveSlot (.laneValve l) = false →
        Refuses (.laneSet len l f) s 0x10 .conflict) ∧
      ((∀ p ∈ LaneFields.points f, (s.pointAt p).kind ≠ .discrete) → s.slotFree f.valveSlot (.laneValve l) = true →
        s.modeFits l → ∃ t, Runs (.laneSet len l f) s t ∧ (t.lane l).config = some f ∧
          ((s.lane l).mode = .unconfigured → (t.lane l).mode = .outOfService) ∧
          (t.lane l).curve = (s.lane l).curve ∧ (t.lane l).faultConfig = (s.lane l).faultConfig ∧
          ((s.lane l).config.map (·.valveSlot) ≠ some f.valveSlot →
            (∀ q : SlotId, q.val = f.valveSlot → (t.slot q).claimant = .laneValve l) ∧
            (s.SlotsClaimed → t.drives f.valveSlot 0)) ∧
          (∀ g, (s.lane l).config = some g → g.valveSlot ≠ f.valveSlot →
            ∀ q : SlotId, q.val = g.valveSlot → (t.slot q).claimant = .none ∧
              (s.SlotsClaimed → (t.slot q).value = 0 ∧ (t.slot q).valid = false)) ∧
          -- the correction limit and the air priority
          ((s.lane l).config = none → (t.lane l).correctionLimit = f.correctionLimit) ∧
          ((s.lane l).config.isSome = true → (t.lane l).correctionLimit = (s.lane l).correctionLimit) ∧
          ((s.lane l).config = none → (t.lane l).airPriority = f.airPriority) ∧
          (∀ g, (s.lane l).config = some g →
            (s.air.entryOf l = none ∨ g.airPriority = f.airPriority →
              (t.lane l).airPriority = (s.lane l).airPriority ∧ t.air = s.air) ∧
            (∀ e, s.air.entryOf l = some e → g.airPriority ≠ f.airPriority →
              (t.lane l).airPriority = f.airPriority ∧
              (∀ u : State, u = s.setLane l { s.lane l with airPriority := f.airPriority } →
                t.air = ((u.withdraw l).requestAir l e.amount).air) ∧
              (0 < e.amount → s.air.freeze ≠ .none ∨ s.air.available = 0 → t.air.grants = s.air.grants ∧
                t.air.queue = placeEntry t.airPriority ⟨l, e.amount, s.uptime, false⟩
                  (s.air.queue.filter (fun x => x.lane ≠ l))) ∧
              (0 < e.amount → s.air.queue = [e] → s.air.freeze = .none → s.air.short = false → ∀ given : Nat,
                given = min e.amount s.air.available → t.grant l = s.grant l + given ∧
                (given = e.amount → t.air.queue = []) ∧
                (given < e.amount → t.air.queue = [⟨l, e.amount - given, s.uptime, false⟩])))) ∧
          t.reply = taken 0x10 [.u8 (t.lane l).mode.code] ∧ OnlyAir s t))

/-- LANE_CURVE, LANE_MANUAL_AIR and LANE_FAULT_SET (R3, R9, R28), and what a curve that LANE_CURVE takes makes of a flow (R18):
the inverse curve, exactly, is the opening of the first point at or below its flow, that of the last point at or above its
flow, and between two neighbouring points the straight line; the valve command is it plus the correction, rounded once to the
nearest, halves up, and clamped 0 to 1000. -/
def Obligations.LaneSettingsTaken : Prop :=
  (∀ (curve : List (Nat × Nat)) (flow : Nat) (num : Int) (den : Nat), curveInRange curve = true →
    (num, den) = inverseCurve flow curve → 0 < den ∧
    (∀ p, curve.head? = some p → flow ≤ p.2 → (num : ℚ) / den = p.1) ∧
    (∀ p, curve.getLast? = some p → p.2 ≤ flow → (num : ℚ) / den = p.1) ∧
    (∀ (k : Nat) (p q : Nat × Nat), curve[k]? = some p → curve[k + 1]? = some q → p.2 ≤ flow → flow ≤ q.2 →
      (num : ℚ) / den = p.1 + ((q.1 : ℚ) - p.1) * ((flow : ℚ) - p.2) / ((q.2 : ℚ) - p.2)) ∧
    (∀ (correction : Int) (x : ℚ), x = (num : ℚ) / den + correction → ∀ n : Nat, n = valveCommandFor curve flow correction →
      (x ≤ 0 → n = 0) ∧ (1000 ≤ x → n = 1000) ∧
      (0 ≤ x → x ≤ 1000 → (n : ℚ) - 1 / 2 ≤ x ∧ x < (n : ℚ) + 1 / 2))) ∧
  ∀ (s : State) (l : LaneId), s.Hears →
    (∀ (len : Nat) (curve : List (Nat × Nat)), lengthFor len (.u8 l :: curveWire curve) = true →
      2 ≤ curve.length → curve.length ≤ 8 →
      (curveInRange curve = false → Refuses (.laneCurve len l curve) s 0x11 .range) ∧
      (curveInRange curve = true →
        ((s.lane l).mode = .unconfigured → Refuses (.laneCurve len l curve) s 0x11 .unconfigured) ∧
        ((s.lane l).mode = .outOfService ∨ (s.lane l).mode = .parked →
          Answers (.laneCurve len l curve) s (s.setLane l { s.lane l with curve := curve }) 0x11 (curveWire curve)) ∧
        ((s.lane l).mode.takesStructure = false → Refuses (.laneCurve len l curve) s 0x11 .state))) ∧
    (∀ air : Nat,
      ((s.lane l).config = none → Refuses (.laneManualAir 4 l air) s 0x13 .unconfigured) ∧
      (∀ c, (s.lane l).config = some c →
        ((s.lane l).mode ≠ .manual → Refuses (.laneManualAir 4 l air) s 0x13 .state) ∧
        ((s.lane l).mode = .manual → (air < c.minAir ∨ c.maxAir < air) →
          Refuses (.laneManualAir 4 l air) s 0x13 .range) ∧
        ((s.lane l).mode = .manual → c.minAir ≤ air → air ≤ c.maxAir →
          Answers (.laneManualAir 4 l air) s (s.setLane l { s.lane l with manualAir := air }) 0x13 [.u16 air]))) ∧
    (∀ f : FaultFields,
      (f.inRange = false → Refuses (.laneFaultSet 6 l f) s 0x14 .range) ∧
      (f.inRange = true → (s.lane l).mode = .unconfigured → Refuses (.laneFaultSet 6 l f) s 0x14 .unconfigured) ∧
      (f.inRange = true → (s.lane l).mode ≠ .unconfigured → (s.lane l).cause.isSome →
        Refuses (.laneFaultSet 6 l f) s 0x14 .state) ∧
      (f.inRange = true → (s.lane l).mode ≠ .unconfigured → (s.lane l).cause = none →
        Answers (.laneFaultSet 6 l f) s (s.setLane l { s.lane l with faultConfig := FaultFields.config f }) 0x14
          [.u8 f.enableMask, .u8 f.substitution, .u8 f.faultMode, .u8 f.fallback]))

/-- LANE_MODE (R4 to R8, R10), with what the mode entered puts in the lane's valve slot. Entering OUT_OF_SERVICE or PARKED
(R5): no supervised move, every condition of the lane FALSE, its entries suppressed. Entering ADOPTING (R6): no supervised
move, load memory absent, mismatch run 0, and an increase request of min air less the grant, which serving may give at once
(R50, R7). That the lane's valve command field becomes 0 on entering OUT_OF_SERVICE or PARKED is the model's (assumption log
24): R5 writes 0 to the slot and does not name the field. -/
def Obligations.LaneModeTaken : Prop :=
  ∀ (s : State) (l : LaneId), s.Hears →
    (∀ m, m ≠ 1 → m ≠ 2 → m ≠ 4 → m ≠ 5 → Refuses (.laneMode 3 l m) s 0x12 .range) ∧
    ((s.lane l).mode = .unconfigured → ∀ m, (m = 1 ∨ m = 2 ∨ m = 4 ∨ m = 5) →
      Refuses (.laneMode 3 l m) s 0x12 .unconfigured) ∧
    ((s.lane l).mode ≠ .unconfigured → ∀ m, (m = 1 ∨ m = 2) → ∃ t, Runs (.laneMode 3 l m) s t ∧
      (t.lane l).mode = (if m = 1 then .outOfService else .parked) ∧ (t.lane l).woken = false ∧
      ((s.lane l).mode.takesStructure = false → t.grant l = 0 ∧ (t.lane l).cause = none ∧
        (t.lane l).record = none ∧ (t.lane l).stalled = false ∧ (t.lane l).timer = none ∧ t.air.entryOf l = none ∧
        (t.lane l).sup.moving = false ∧ (t.lane l).sup.preGrant = none ∧ t.air.holdMarks[l] = false ∧
        (∀ e ∈ laneEntries l, (t.entry e).condition = false) ∧ t.alarm.laneFlags[l] = true ∧
        (t.lane l).valveCommand = 0 ∧ (∀ c, (s.lane l).config = some c → t.drives c.valveSlot 0)) ∧
      ((s.lane l).mode.takesStructure = true → t.slots = s.slots) ∧
      t.reply = taken 0x12 [.u8 m] ∧ OnlyAir s t) ∧
    ((s.lane l).mode = .outOfService ∨ (s.lane l).mode = .parked → ∀ m (target : RunMode), m = target.code →
      ((s.lane l).curve = [] → Refuses (.laneMode 3 l m) s 0x12 .unconfigured) ∧
      ((s.lane l).curve ≠ [] → ∃ t, Runs (.laneMode 3 l m) s t ∧
        ((t.lane l).mode = .adopting target ∨ (t.lane l).mode = target.mode) ∧ (t.lane l).woken = false ∧
        (∀ c, (s.lane l).config = some c → s.SlotsClaimed →
          ((t.lane l).mode = .adopting target → t.undriven c.valveSlot) ∧
          ((t.lane l).mode = target.mode → t.drives c.valveSlot (t.lane l).valveCommand)) ∧
        -- R6's effects
        (t.lane l).stalled = false ∧ (t.lane l).sup.moving = false ∧ (t.lane l).sup.preGrant = none ∧
        (t.lane l).load = ⟨none, none, none⟩ ∧ (t.lane l).mismatchRun = 0 ∧
        ((t.lane l).mode = .adopting target → (t.lane l).timer = none) ∧
        (t.entry (valveStall l)).condition = false ∧ t.alarm.laneFlags[l] = false ∧
        (∀ c, (s.lane l).config = some c → ∀ wanted : Nat, wanted = c.minAir - s.grant l →
          t.air = (s.requestAir l wanted).air ∧
          (0 < wanted → s.air.freeze ≠ .none ∨ s.air.available = 0 → t.air.grants = s.air.grants ∧
            (t.lane l).mode = .adopting target ∧ (t.air.entryOf l).map (·.amount) = some wanted ∧
            (s.air.entryOf l = none →
              t.air.queue = placeEntry s.airPriority ⟨l, wanted, s.uptime, false⟩ s.air.queue)) ∧
          (0 < wanted → s.air.queue = [] → s.air.freeze = .none → s.air.short = false → ∀ given : Nat,
            given = min wanted s.air.available → t.grant l = s.grant l + given ∧
            (given = wanted → t.air.queue = [] ∧ (t.lane l).mode = target.mode) ∧
            (given < wanted → t.air.queue = [⟨l, wanted - given, s.uptime, false⟩] ∧
              (t.lane l).mode = .adopting target))) ∧
        t.reply = taken 0x12 [.u8 (t.lane l).mode.code] ∧ OnlyAir s t)) ∧
    (∀ old (target : RunMode), (s.lane l).mode = .adopting old →
      Answers (.laneMode 3 l target.code) s
        (s.setLane l { s.lane l with mode := .adopting target, woken := false }) 0x12 [.u8 3]) ∧
    ((s.lane l).mode = .auto →
      Answers (.laneMode 3 l 4) s (s.setLane l { s.lane l with woken := false }) 0x12 [.u8 4] ∧
      Answers (.laneMode 3 l 5) s
        (s.setLane l { s.lane l with mode := .manual, manualAir := (s.lane l).demand, woken := false }) 0x12 [.u8 5]) ∧
    ((s.lane l).mode = .manual →
      Answers (.laneMode 3 l 5) s (s.setLane l { s.lane l with woken := false }) 0x12 [.u8 5] ∧
      Answers (.laneMode 3 l 4) s
        (s.setLane l { s.lane l with mode := .auto, bumpless := true, woken := false }) 0x12 [.u8 4]) ∧
    (∀ ret, (s.lane l).mode = .hold ret →
      Refuses (.laneMode 3 l 4) s 0x12 .state ∧ Refuses (.laneMode 3 l 5) s 0x12 .state)

/-- LANE_GATE (R39, and R35 where it takes the lane to HOLD) and LANE_RELEASE (R41, with R47 for the hold mark and R60 for
the grants). The slot of a retry under way at the entry to HOLD is the model's (assumption log 23). -/
def Obligations.LaneGateAndRelease : Prop :=
  (∀ (s : State) (l : LaneId), s.Hears →
    (∀ g, 1 < g → Refuses (.laneGate 3 l g) s 0x15 .range) ∧
    ((s.lane l).mode = .unconfigured → ∀ g, g ≤ 1 → Refuses (.laneGate 3 l g) s 0x15 .unconfigured) ∧
    ((s.lane l).mode ≠ .unconfigured →
      ((s.lane l).gateOpen = true → ∃ t, Runs (.laneGate 3 l 1) s t ∧ t = { s with reply := t.reply, rx := [] }) ∧
      ((s.lane l).gateOpen = false → ∃ t, Runs (.laneGate 3 l 0) s t ∧ t = { s with reply := t.reply, rx := [] }) ∧
      ((s.lane l).gateOpen = true → ∃ t, Runs (.laneGate 3 l 0) s t ∧
        t.lanes = (s.setLane l { s.lane l with gateOpen := false }).lanes ∧
        (t.entry (trimFault l)).condition = false ∧ OnlyAir s t ∧ t.air = s.air ∧ t.slots = s.slots) ∧
      ((s.lane l).gateOpen = false → ∃ t, Runs (.laneGate 3 l 1) s t ∧ (t.lane l).gateOpen = true ∧
        (t.entry (trimFault l)).condition = (s.lane l).cause.isSome ∧ (t.lane l).cause = (s.lane l).cause ∧
        ((s.lane l).cause.isSome → (s.lane l).mode.runs = true →
          ((s.lane l).faultConfig.continues = false ∨ (s.lane l).cause = some .flowUnusable) →
            (t.lane l).mode.isHold = true ∧ t.grant l = s.grant l ∧
            (t.lane l).valveCommand = (s.lane l).valveCommand ∧ (t.lane l).demand = (s.lane l).demand ∧
            HoldSlots l s t) ∧
        ((s.lane l).cause.isSome → (s.lane l).faultConfig.continues = true →
          (s.lane l).cause ≠ some .flowUnusable → (t.lane l).mode = (s.lane l).mode) ∧ OnlyAir s t))) ∧
  (∀ (s : State) (l : LaneId), s.Hears →
    ((s.lane l).mode = .unconfigured → Refuses (.laneRelease 2 l) s 0x16 .unconfigured) ∧
    ((s.lane l).mode ≠ .unconfigured → (s.lane l).cause = none → Refuses (.laneRelease 2 l) s 0x16 .state) ∧
    (∀ ret c, (s.lane l).mode = .hold ret → (s.lane l).cause.isSome → (s.lane l).config = some c →
      ∃ t, Runs (.laneRelease 2 l) s t ∧ (t.lane l).mode = ret.mode ∧ (t.lane l).cause = none ∧
        (t.lane l).record = none ∧ (t.lane l).bumpless = true ∧ (t.lane l).timer = some c.period ∧
        (t.lane l).demand = (s.lane l).demand ∧ (t.lane l).correction = (s.lane l).correction ∧
        (t.lane l).valveCommand = (s.lane l).valveCommand ∧ (t.lane l).sticky = (s.lane l).sticky ∧
        (t.lane l).gateOpen = (s.lane l).gateOpen ∧ (t.entry (trimFault l)).condition = false ∧
        t.air.holdMarks[l] = false ∧ (s.air.short = false → t.air.grants = s.air.grants) ∧
        t.reply = taken 0x16 [.u8 ret.mode.code] ∧ OnlyAir s t) ∧
    ((s.lane l).mode.isHold = false → (s.lane l).mode ≠ .unconfigured → (s.lane l).cause.isSome →
      ∃ t, Runs (.laneRelease 2 l) s t ∧ t.lanes = (s.setLane l { s.lane l with cause := none, record := none }).lanes ∧
        (t.entry (trimFault l)).condition = false ∧ t.reply = taken 0x16 [.u8 (s.lane l).mode.code] ∧
        OnlyAir s t ∧ t.air = s.air ∧ t.slots = s.slots))

/-- A lane period that no check abandons, through its eight stages (R11 to R20), with the airflow point GOOD and the mismatch
run below its count: in MANUAL, and in AUTO where the checks find nothing or what they find does not stop the lane. What
R33 and R34 put in the place of an input that is not GOOD stands in the next statement. The number that follows the greatest
period number is the model's (assumption log 12), and so is that with the stall window 0 a move already MOVING goes on at
its old target while the supervised command is the new one (log 30). What `valveCommandFor` makes of a curve, R18's inverse
curve and its one rounding, LaneSettingsTaken says; what `roundDiv` is, QualityScalingAndFilter. -/
def Obligations.LanePeriodCompletes : Prop :=
  ∀ (s : State) (l : LaneId) (c : LaneFields) (flow : Int), s.held = false → (s.lane l).config = some c →
    c.inRange = true → s.goodValue c.airflowPoint = some flow → (s.lane l).mismatchRun + 1 < c.mismatchCount →
    (s.checksPass l c ∨ ((s.lane l).mode = .auto ∧ (s.lane l).neverLatches)) →
    ∃ t, Runs (.lanePeriod l) s t ∧ (t.lane l).mode = (s.lane l).mode ∧ (t.lane l).timer = some c.period ∧
      (t.lane l).airPriority = c.airPriority ∧ (t.lane l).correctionLimit = c.correctionLimit ∧
      (s.checksPass l c → (t.lane l).sticky = (s.lane l).sticky ∧
        (t.lane l).cause = (s.lane l).cause ∧ (t.lane l).record = (s.lane l).record) ∧
      (t.lane l).periodNumber = nextPeriodNumber l (s.lane l).periodNumber ∧
      c.minAir ≤ (t.lane l).demand ∧ (t.lane l).demand ≤ c.maxAir ∧
      -- the setpoint and the cascade
      (s.plant.storm = true → (t.lane l).setpoint = c.stormSetpoint ∧ (t.lane l).cascaded = (s.lane l).cascaded) ∧
      (s.plant.storm = false → c.cascadeEnable = 0 → (t.lane l).setpoint = c.doSetpoint ∧
        (t.lane l).cascaded = (s.lane l).cascaded) ∧
      (s.plant.storm = false → c.cascadeEnable = 1 → (s.lane l).mode = .manual →
        (t.lane l).setpoint = (s.lane l).cascaded ∧ (t.lane l).cascaded = (s.lane l).cascaded) ∧
      (∀ nh4, c.nh4Point.bind s.goodValue = some nh4 → s.plant.storm = false → c.cascadeEnable = 1 →
        (s.lane l).mode = .auto → (t.lane l).setpoint = (t.lane l).cascaded ∧
        (t.lane l).cascaded = (if (s.lane l).periodNumber % c.cascadeDivider = 0 then
          clampNat c.spLow c.spHigh
            (roundDiv ((c.doSetpoint : Int) * 100 + c.cascadeGain * (nh4 - c.nh4Setpoint)) 100)
          else (s.lane l).cascaded)) ∧
      -- the demand: manual air, or the loop with its feed-forward term
      ((s.lane l).mode = .manual → (t.lane l).demand = clampNat c.minAir c.maxAir (s.lane l).manualAir ∧
        (t.lane l).previousError = (s.lane l).previousError ∧ (t.lane l).bumpless = (s.lane l).bumpless) ∧
      (∀ v, s.goodValue c.doPoint = some v → (s.lane l).mode = .auto →
        (t.lane l).previousError = ((t.lane l).setpoint : Int) - v ∧ (t.lane l).bumpless = false ∧
        ∀ change : Int, change = (if (feedTrain s c).isSome then
            match (s.lane l).load.previous, (t.lane l).load.previous with
            | some old, some now => now - old
            | _, _ => 0
          else 0) →
          (t.lane l).demand = clampNat c.minAir c.maxAir (roundDiv
            ((s.lane l).demand * (100 * c.ti) +
              (if (s.lane l).bumpless then 0 else c.kp * ((t.lane l).previousError - (s.lane l).previousError)) * c.ti +
              c.kp * c.period * (t.lane l).previousError + c.feedForward * change * c.ti) (100 * c.ti))) ∧
      (t.lane l).load.influent =
        ((feedTrain s c).bind (fun f => s.goodValue f.influentPoint)).or (s.lane l).load.influent ∧
      (t.lane l).load.ras = ((feedTrain s c).bind (fun f => s.goodValue f.rasFlowPoint)).or (s.lane l).load.ras ∧
      (t.lane l).load.previous = (match (t.lane l).load.influent, (t.lane l).load.ras with
        | some a, some b => some (a + b)
        | _, _ => none) ∧
      -- the air claim
      ((t.lane l).demand + c.releaseDeadband < s.grant l → t.grant l = (t.lane l).demand ∧
        (t.lane l).lastValveGrant = (t.lane l).demand ∧ t.air.entryOf l = none) ∧
      (s.grant l ≤ (t.lane l).demand + c.releaseDeadband → (t.lane l).lastValveGrant = s.grant l ∧
        ((t.lane l).demand ≤ s.grant l ∨ (s.lane l).stalled = true → t.grant l = s.grant l ∧ t.air.entryOf l = none) ∧
        (s.grant l < (t.lane l).demand → (s.lane l).stalled = false → s.air.freeze ≠ .none →
          t.grant l = s.grant l ∧ (t.air.entryOf l).map (·.amount) = some ((t.lane l).demand - s.grant l)) ∧
        (s.grant l < (t.lane l).demand → (s.lane l).stalled = false →
          t.air = (State.requestAir (s.setLane l { s.lane l with airPriority := c.airPriority }) l
            ((t.lane l).demand - s.grant l)).air ∧
          (s.air.queue = [] → s.air.freeze = .none → s.air.short = false → ∀ given : Nat,
            given = min ((t.lane l).demand - s.grant l) s.air.available →
            t.grant l = s.grant l + given ∧
            (given = (t.lane l).demand - s.grant l → t.air.queue = []) ∧
            (given < (t.lane l).demand - s.grant l →
              t.air.queue = [⟨l, (t.lane l).demand - s.grant l - given, s.uptime, false⟩])))) ∧
      -- the flow loop, the valve and the move
      (t.lane l).correction = clampInt (-(c.correctionLimit : Int)) c.correctionLimit
        (roundDiv ((s.lane l).correction * 100 + c.flowGain * ((t.lane l).lastValveGrant - flow)) 100) ∧
      (t.lane l).mismatchRun = (if c.mismatchTolerance * (t.lane l).lastValveGrant <
        (((t.lane l).lastValveGrant : Int) - flow).natAbs * 100 then (s.lane l).mismatchRun + 1 else 0) ∧
      (t.lane l).valveCommand = valveCommandFor (s.lane l).curve (t.lane l).lastValveGrant (t.lane l).correction ∧
      t.drives c.valveSlot (t.lane l).valveCommand ∧
      (distance (t.lane l).valveCommand (s.lane l).sup.command ≤ c.valveDeadband →
        (t.lane l).sup = { (s.lane l).sup with tolerance := c.feedbackTolerance, retryLimit := c.retryLimit }) ∧
      (c.valveDeadband < distance (t.lane l).valveCommand (s.lane l).sup.command →
        (c.feedbackPoint = none ∨ c.stallWindow = 0 → (t.lane l).sup = { (s.lane l).sup with
          tolerance := c.feedbackTolerance, retryLimit := c.retryLimit, command := (t.lane l).valveCommand }) ∧
        (c.feedbackPoint.isSome = true → 0 < c.stallWindow → ∀ own pre : Option Nat,
          own = (if (s.lane l).lastValveGrant < (t.lane l).lastValveGrant then some (s.lane l).lastValveGrant else none) →
          pre = (match (s.lane l).sup.moving, (s.lane l).sup.preGrant with
            | true, some a => some (min a (own.getD a))
            | _, _ => own) →
          (t.lane l).sup = ⟨true, (t.lane l).valveCommand, c.stallWindow, 0, pre, (t.lane l).valveCommand, .none,
            c.feedbackTolerance, c.retryLimit⟩)) ∧
      (t.entry (lowDo l)).condition = (s.goodValue c.doPoint).any (fun v => decide (v < (c.doLow : Int))) ∧
      (t.entry (highDo l)).condition = (s.goodValue c.doPoint).any (fun v => decide ((c.doHigh : Int) < v)) ∧
      t.reply = s.reply ∧ OnlyAir s t

/-- The faults of stages 1, 2 and 4 in AUTO (R29, R30, R33 to R37), one of them found in the period: ABSENT_INPUT and RANGE
of the DO point, CASCADE_INPUT, SATURATION, with the cascade at work or not. One that is enabled, with no cause held, the
gate OPEN and the fault mode LATCHED, abandons the period into HOLD; any other sets its sticky bit, becomes the cause where
it is enabled and none is held, and the period goes on with the substitution. The record of CASCADE_INPUT holds the setpoint
from before the period (assumption log 22), an abandoned period brings the air priority, the correction limit, the tolerance
and the retry limit into force (log 30), and a retry under way at the entry to HOLD leaves the slot alone (log 23). -/
def Obligations.LanePeriodInputFaults : Prop :=
  ∀ (s : State) (l : LaneId) (c : LaneFields) (k : FaultKind) (setpoint : Nat), s.held = false →
    (s.lane l).config = some c → (s.lane l).mode = .auto → c.inRange = true → c.minAir ≤ (s.lane l).demand →
    (s.lane l).demand ≤ c.maxAir →
    ((inputFault (s.pointAt c.doPoint).quality = some k ∧ setpoint = (s.lane l).setpoint ∧
        (s.setpointInUse l c).isSome = true) ∨
      (k = .cascadeInput ∧ (s.pointAt c.doPoint).quality = .good ∧ s.setpointInUse l c = none ∧
        setpoint = (s.lane l).setpoint) ∨
      (k = .saturation ∧ s.setpointInUse l c = some setpoint ∧
        ∃ d : Int, s.autoDemand l c = some d ∧ (d < c.minAir ∨ (c.maxAir : Int) < d))) →
    ∀ substitute : Nat, substitute = (match (s.lane l).faultConfig.substitution with
      | .holdLast => (s.lane l).cascaded
      | .lean => c.spLow
      | .rich => c.spHigh
      | .fixed => c.doSetpoint) →
    ((s.lane l).faultConfig.enabled &&& k.bit ≠ 0 → (s.lane l).cause = none → (s.lane l).gateOpen = true →
      (s.lane l).faultConfig.continues = false → ∃ t, Runs (.lanePeriod l) s t ∧
        t.lane l = { s.lane l with
          mode := .hold .auto, timer := none, sticky := (s.lane l).sticky ||| k.bit, cause := some k,
          airPriority := c.airPriority, correctionLimit := c.correctionLimit,
          record := some ⟨k, (s.lane l).periodNumber, (s.pointAt c.doPoint).value, (s.pointAt c.doPoint).quality,
            setpoint, (s.lane l).demand⟩,
          sup := { (s.lane l).sup with tolerance := c.feedbackTolerance, retryLimit := c.retryLimit } } ∧
        t.grant l = s.grant l ∧ t.air.entryOf l = none ∧ t.air.holdMarks[l] = true ∧ HoldSlots l s t ∧
        (t.entry (trimFault l)).condition = true ∧
        (∃ n ∈ t.notices, n.source = .lane l ∧ n.causes &&& 3#8 = 3#8) ∧ OnlyAir s t) ∧
    ((s.lane l).faultConfig.enabled &&& k.bit = 0 ∨ (s.lane l).cause.isSome = true ∨ (s.lane l).gateOpen = false ∨
      (s.lane l).faultConfig.continues = true →
      ∀ flow, s.goodValue c.airflowPoint = some flow → (s.lane l).mismatchRun + 1 < c.mismatchCount →
      (k = .cascadeInput → ∀ d : Int, s.demandOn l c substitute = some d → (c.minAir : Int) ≤ d ∧ d ≤ c.maxAir) →
      ∃ t, Runs (.lanePeriod l) s t ∧ (t.lane l).mode = .auto ∧ (t.lane l).sticky = (s.lane l).sticky ||| k.bit ∧
        (t.lane l).periodNumber = nextPeriodNumber l (s.lane l).periodNumber ∧
        ((s.lane l).faultConfig.enabled &&& k.bit = 0 ∨ (s.lane l).cause.isSome = true →
          (t.lane l).cause = (s.lane l).cause ∧ (t.lane l).record = (s.lane l).record) ∧
        ((s.lane l).faultConfig.enabled &&& k.bit ≠ 0 → (s.lane l).cause = none →
          (t.lane l).cause = some k ∧ (t.lane l).record = some ⟨k, (s.lane l).periodNumber,
            (s.pointAt c.doPoint).value, (s.pointAt c.doPoint).quality, setpoint, (s.lane l).demand⟩ ∧
          (t.entry (trimFault l)).condition = (s.lane l).gateOpen ∧
          ((s.lane l).gateOpen = true → ∃ n ∈ t.notices, n.source = .lane l ∧ n.causes &&& 1#8 = 1#8)) ∧
        (k = .absentInput ∨ k = .range → (t.lane l).bumpless = true ∧
          (t.lane l).previousError = (s.lane l).previousError ∧
          (t.lane l).demand = (match (s.lane l).faultConfig.substitution, (s.pointAt c.doPoint).quality with
            | .holdLast, _ => (s.lane l).demand
            | .lean, .underrange => (s.lane l).demand
            | .lean, _ => c.minAir
            | .rich, .overrange => (s.lane l).demand
            | .rich, _ => c.maxAir
            | .fixed, _ => c.fallbackAir)) ∧
        (k = .cascadeInput → (t.lane l).cascaded = (s.lane l).cascaded ∧ (t.lane l).setpoint = substitute ∧
          s.demandOn l c substitute = some ((t.lane l).demand : Int)) ∧
        (k = .saturation → (t.lane l).demand = c.minAir ∨ (t.lane l).demand = c.maxAir) ∧ OnlyAir s t)

/-- The flow loop's faults (R31, R32, R35), in MANUAL and in AUTO with nothing found by the checks before: with the airflow
point not GOOD and fallback ON the period completes open loop; with fallback OFF it is abandoned, into HOLD where the gate
is OPEN. A mismatch run that reaches its count is FLOW_MISMATCH. An abandoned period brings the air priority, the correction
limit, the tolerance and the retry limit into force (assumption log 30), and a retry under way at the entry to HOLD leaves
the slot alone (log 23). `valveCommandFor` is R18's, as LaneSettingsTaken says. -/
def Obligations.LanePeriodFlowFaults : Prop :=
  ∀ (s : State) (l : LaneId) (c : LaneFields), s.held = false → (s.lane l).config = some c →
    s.checksPass l c → c.inRange = true → ∀ ret : RunMode, (s.lane l).mode = ret.mode →
    (s.goodValue c.airflowPoint = none → (s.lane l).faultConfig.fallback = true → ∃ t, Runs (.lanePeriod l) s t ∧
      (t.lane l).mode = ret.mode ∧ (t.lane l).openLoopSticky = true ∧ (t.lane l).mismatchRun = 0 ∧
      (t.lane l).correction = (s.lane l).correction ∧ (t.lane l).sticky = (s.lane l).sticky ∧
      (t.lane l).cause = (s.lane l).cause ∧
      (t.lane l).valveCommand = valveCommandFor (s.lane l).curve (t.lane l).lastValveGrant (s.lane l).correction ∧
      t.drives c.valveSlot (t.lane l).valveCommand ∧
      (t.lane l).periodNumber = nextPeriodNumber l (s.lane l).periodNumber ∧ OnlyAir s t) ∧
    (s.goodValue c.airflowPoint = none → (s.lane l).faultConfig.fallback = false → ∃ t, Runs (.lanePeriod l) s t ∧
      t.lane l = { s.lane l with
        mode := (if (s.lane l).gateOpen then .hold ret else ret.mode), airPriority := c.airPriority,
        correctionLimit := c.correctionLimit,
        timer := (if (s.lane l).gateOpen then none else some c.period),
        sticky := (s.lane l).sticky ||| FaultKind.flowUnusable.bit,
        cause := (if (s.lane l).cause = none then some .flowUnusable else (s.lane l).cause), record := (t.lane l).record,
        sup := { (s.lane l).sup with tolerance := c.feedbackTolerance, retryLimit := c.retryLimit } } ∧
      ((s.lane l).cause.isSome = true → (t.lane l).record = (s.lane l).record) ∧
      ((s.lane l).cause = none → ∃ x, (t.lane l).record = some x ∧ x.kind = .flowUnusable ∧
        x.periodNumber = (s.lane l).periodNumber ∧ x.doValue = (s.pointAt c.doPoint).value ∧
        x.doQuality = (s.pointAt c.doPoint).quality ∧ x.demandBefore = (s.lane l).demand ∧
        (ret = .auto → s.setpointInUse l c = some x.setpoint) ∧
        (ret = .manual → x.setpoint = (if s.plant.storm then c.stormSetpoint
          else if c.cascadeEnable = 0 then c.doSetpoint else (s.lane l).cascaded))) ∧
      t.grant l = s.grant l ∧ ((s.lane l).gateOpen = false → t.air = s.air ∧ t.slots = s.slots) ∧
      ((s.lane l).gateOpen = true → HoldSlots l s t ∧ t.air.holdMarks[l] = true ∧ t.air.entryOf l = none ∧
        (∃ n ∈ t.notices, n.source = .lane l ∧ n.causes &&& 2#8 = 2#8)) ∧
      (t.entry (trimFault l)).condition = (s.lane l).gateOpen ∧ OnlyAir s t) ∧
    (∀ flow, s.goodValue c.airflowPoint = some flow → c.mismatchCount ≤ (s.lane l).mismatchRun + 1 →
      ∀ demand grant : Nat, (ret = .manual → demand = clampNat c.minAir c.maxAir (s.lane l).manualAir) →
      (ret = .auto → s.autoDemand l c = some (demand : Int)) →
      grant = (if demand + c.releaseDeadband < s.grant l then demand else s.grant l) →
      c.mismatchTolerance * grant < ((grant : Int) - flow).natAbs * 100 → ∃ t, Runs (.lanePeriod l) s t ∧
        (t.lane l).sticky = (s.lane l).sticky ||| FaultKind.flowMismatch.bit ∧
        ((s.lane l).faultConfig.enabled &&& FaultKind.flowMismatch.bit ≠ 0 → (s.lane l).cause = none →
          (s.lane l).gateOpen = true → (s.lane l).faultConfig.continues = false →
          (t.lane l).mode = .hold ret ∧ (t.lane l).cause = some .flowMismatch ∧
          (t.lane l).mismatchRun = (s.lane l).mismatchRun ∧ (t.lane l).correction = (s.lane l).correction ∧
          (t.lane l).demand = (s.lane l).demand ∧ (t.lane l).periodNumber = (s.lane l).periodNumber ∧
          (t.lane l).valveCommand = (s.lane l).valveCommand ∧ t.grant l = s.grant l ∧ HoldSlots l s t) ∧
        ((s.lane l).faultConfig.enabled &&& FaultKind.flowMismatch.bit = 0 ∨ (s.lane l).cause.isSome = true ∨
          (s.lane l).gateOpen = false ∨ (s.lane l).faultConfig.continues = true →
          (t.lane l).mode = ret.mode ∧ (t.lane l).mismatchRun = 0 ∧ (t.lane l).demand = demand ∧
          (t.lane l).lastValveGrant = grant ∧ t.drives c.valveSlot (t.lane l).valveCommand ∧
          (t.lane l).correction = clampInt (-(c.correctionLimit : Int)) c.correctionLimit
            (roundDiv ((s.lane l).correction * 100 + c.flowGain * ((grant : Int) - flow)) 100)) ∧ OnlyAir s t)

/-- The lane's other events (R22, R23, R30, R32, R35, R49, R52), with the retry limit in force (R2). A mismatch taken in
LATCHED leaves the run count as it stood (R35 over R32: assumption log 22), and the slot alone where a retry is under way
(log 23); retries above a limit lowered since stall the move, and the window stays 0 until the next one (log 30); with the
stall window changed to 0 the revalidation ends supervision (log 23). A retry makes the slot valid again at the move's
target, in HOLD at the held command (R22, R24). That its new window is the stall window the record holds then, in HOLD too,
follows R22 and R2 over R40 (log 30). -/
def Obligations.LaneEvents : Prop :=
  ∀ (s : State) (l : LaneId) (c : LaneFields), s.held = false → s.LinesFollow → (s.lane l).config = some c →
    ((s.lane l).mode.runs = true → ∃ t, Runs (.flowMismatchDetected l) s t ∧
      (t.lane l).sticky = (s.lane l).sticky ||| FaultKind.flowMismatch.bit ∧
      ((s.lane l).cause.isSome ∨ (s.lane l).faultConfig.enabled &&& FaultKind.flowMismatch.bit = 0 →
        (t.lane l).mode = (s.lane l).mode ∧ (t.lane l).cause = (s.lane l).cause ∧ (t.lane l).mismatchRun = 0) ∧
      ((s.lane l).cause = none → (s.lane l).faultConfig.enabled &&& FaultKind.flowMismatch.bit ≠ 0 →
        (t.lane l).cause = some .flowMismatch ∧
        ((s.lane l).gateOpen = true → (s.lane l).faultConfig.continues = false →
          (t.lane l).mode = .hold (if (s.lane l).mode = .manual then .manual else .auto) ∧ (t.lane l).timer = none ∧
          (t.lane l).mismatchRun = (s.lane l).mismatchRun ∧ (t.entry (trimFault l)).condition = true ∧
          t.air.holdMarks[l] = true ∧ HoldSlots l s t) ∧
        ((s.lane l).gateOpen = false ∨ (s.lane l).faultConfig.continues = true →
          (t.lane l).mode = (s.lane l).mode ∧ (t.lane l).mismatchRun = 0)) ∧ OnlyAir s t) ∧
    ((s.lane l).sup.moving = true → (s.lane l).sup.retry = .none →
      ((s.lane l).sup.retryLimit = 0 ∨ (s.lane l).sup.retries < (s.lane l).sup.retryLimit →
        Runs (.valveWindowEnd l) s ((s.setLane l { s.lane l with sup := { (s.lane l).sup with
          window := 0, retries := heldAdd 15 (s.lane l).sup.retries, retry := .dropped } }).invalidateSlot c.valveSlot)) ∧
      ((s.lane l).sup.retryLimit ≠ 0 → (s.lane l).sup.retryLimit ≤ (s.lane l).sup.retries → ∃ t, Runs (.valveWindowEnd l) s t ∧
        (t.lane l).stalled = true ∧ (t.lane l).sup.moving = false ∧ (t.lane l).sup.preGrant = none ∧
        (t.entry (valveStall l)).condition = true ∧ t.air.entryOf l = none ∧
        (∀ p, (s.lane l).sup.preGrant = some p → t.grant l = min p (s.grant l) ∧ t.air.lastTimeout = some l) ∧
        ((s.lane l).sup.preGrant = none → t.grant l = s.grant l ∧ t.air.lastTimeout = s.air.lastTimeout) ∧
        OnlyAir s t)) ∧
    (∀ opening : Nat, opening = (if (s.lane l).mode.isHold then (s.lane l).valveCommand else (s.lane l).sup.target) →
    ((s.lane l).sup.moving = true → (s.lane l).sup.retry ≠ .none → c.stallWindow ≠ 0 →
      Runs (.valveRetryRevalidate l) s ((s.setLane l { s.lane l with sup := { (s.lane l).sup with
        window := c.stallWindow, retry := .none } }).writeSlot c.valveSlot opening true)) ∧
    ((s.lane l).sup.moving = true → (s.lane l).sup.retry ≠ .none → c.stallWindow = 0 →
      Runs (.valveRetryRevalidate l) s ((s.setLane l { s.lane l with sup := { (s.lane l).sup with
        moving := false, preGrant := none, retry := .none } }).writeSlot c.valveSlot opening true)))

/-- A frame update of a lane's valve feedback (R21, R22), with the tolerance and the retry limit in force: it acts in AUTO,
MANUAL and HOLD alone. A stalled flag clears within tolerance of the valve command; a move completes within tolerance of its
target; otherwise its window runs, and its end is VALVE_WINDOW_END's; a retry sent not valid becomes valid again at the
target, in HOLD at the held command, and a new window is set. That a move which completes after its window's end and before
the frame with the slot not valid makes the slot valid at once is the model's (assumption log 23), and so is that a stall
window changed in HOLD is used there (R22 and R2 over R40: log 30). -/
def Obligations.ValveFeedbackFrameUpdates : Prop :=
  ∀ (s : State) (h : HubId) (l : LaneId) (c : LaneFields), (s.lane l).config = some c →
    (c.feedbackPoint.any (onHub h) = false ∨ ((s.lane l).mode.runs = false ∧ (s.lane l).mode.isHold = false) →
      State.laneFeedback h l s = s) ∧
    (∀ p, c.feedbackPoint = some p → onHub h p = true → (s.lane l).mode.runs = true ∨ (s.lane l).mode.isHold = true →
      ∀ (nearCommand nearTarget : Bool) (opening : Nat),
      opening = (if (s.lane l).mode.isHold then (s.lane l).valveCommand else (s.lane l).sup.target) →
      nearCommand = (s.goodValue p).any (fun v => decide ((v - ((s.lane l).valveCommand : Int)).natAbs ≤ (s.lane l).sup.tolerance)) →
      nearTarget = (s.goodValue p).any (fun v => decide ((v - ((s.lane l).sup.target : Int)).natAbs ≤ (s.lane l).sup.tolerance)) →
      ∃ u : State, u = (if (s.lane l).stalled && nearCommand then
          (s.setLane l { s.lane l with stalled := false }).post (valveStall l) false else s) ∧
        ((s.lane l).sup.moving = false → State.laneFeedback h l s = u) ∧
        ((s.lane l).sup.moving = true → (s.lane l).sup.retry = .none →
          (nearTarget = true → State.laneFeedback h l s = u.setLane l { u.lane l with
            sup := { (s.lane l).sup with moving := false, preGrant := none } }) ∧
          (nearTarget = false → 1 < (s.lane l).sup.window → State.laneFeedback h l s = u.setLane l { u.lane l with
            sup := { (s.lane l).sup with window := (s.lane l).sup.window - 1 } }) ∧
          (nearTarget = false → (s.lane l).sup.window ≤ 1 → u.held = false →
            ∀ v, v = u.setLane l { u.lane l with sup := { (s.lane l).sup with window := (s.lane l).sup.window - 1 } } →
              Runs (.valveWindowEnd l) v (finish v (State.laneFeedback h l s)))) ∧
        ((s.lane l).sup.moving = true → (s.lane l).sup.retry = .dropped →
          (nearTarget = false → State.laneFeedback h l s = u) ∧
          (nearTarget = true → State.laneFeedback h l s = (u.setLane l { u.lane l with
            sup := { (s.lane l).sup with moving := false, preGrant := none, retry := .none } }).writeSlot c.valveSlot
              opening true)) ∧
        ((s.lane l).sup.moving = true → (s.lane l).sup.retry = .sent →
          ∃ v : Supervision, (c.stallWindow = 0 →
            v = { (s.lane l).sup with moving := false, preGrant := none, retry := .none }) ∧
          (c.stallWindow ≠ 0 → nearTarget = true → v = { (s.lane l).sup with
            moving := false, preGrant := none, retry := .none, window := c.stallWindow }) ∧
          (c.stallWindow ≠ 0 → nearTarget = false → v = { (s.lane l).sup with retry := .none, window := c.stallWindow }) ∧
          State.laneFeedback h l s =
            (u.setLane l { u.lane l with sup := v }).writeSlot c.valveSlot opening true))

/-! ### The air allocator (chapter 3) -/

/-- AIR_FREEZE (R55): a length of 1 to 65535 is a freeze claim of the larger of the two (R54); 0 ends any freeze, and
serving is then evaluated. -/
def Obligations.AirFreezeTaken : Prop :=
  ∀ s : State, s.Hears →
    (∀ n, 1 ≤ n → n ≤ 65534 → ∃ f : Freeze, Answers (.airFreeze 3 n) s { s with air := { s.air with freeze := f } } 0x21
        [f.wire] ∧
      (s.air.freeze = .none → f = .seconds n) ∧ (∀ m, s.air.freeze = .seconds m → f = .seconds (max m n)) ∧
      (s.air.freeze = .indefinite → f = .indefinite)) ∧
    Answers (.airFreeze 3 65535) s { s with air := { s.air with freeze := .indefinite } } 0x21 [.u16 65535] ∧
    (∃ t, Runs (.airFreeze 3 0) s t ∧ t.air.freeze = .none ∧ t.reply = taken 0x21 [.u16 0] ∧ OnlyAir s t ∧
      t = finish s { (State.serve { s with air := { s.air with freeze := .none } }) with reply := t.reply, rx := [] })

/-- AIR_SET (R64): the six parameters replaced, the surplus condition tested again, nothing else. The allocator's events
(R50, R53, R54): serving grants the head of the queue what is available and goes on with the next; a grant that reaches min
air ends its lane's adoption, bumpless from the measured opening (R7), with the correction limit in force (assumption log
30); the end of a freeze is followed by serving; a starved entry is marked. `inverseCurve` and `valveCommandFor` are R18's, as
LaneSettingsTaken says. -/
def Obligations.AirSetAndServing : Prop :=
  (∀ (s : State) (f : AirFields), s.Hears →
    (f.inRange = false → Refuses (.airSet 12 f) s 0x20 .range) ∧
    (f.inRange = true → ∃ surplus : Option Nat,
      Answers (.airSet 12 f) s { s with air := { s.air with params := f, surplus := surplus } } 0x20 f.wire ∧
      (surplus.isSome = true ↔ { s.air with params := f }.surplusHolds = true) ∧
      (∀ n, surplus.isSome = true → s.air.surplus = some n → surplus = some n) ∧
      (surplus.isSome = true → s.air.surplus = none → surplus = some f.stageOutDelay))) ∧
  (∀ s : State, s.held = false → s.LinesFollow →
    (s.air.queue = [] ∨ s.air.freeze ≠ .none ∨ s.air.short = true ∨ s.air.available = 0 → Runs .airServing s s) ∧
    (∀ e rest, s.air.queue = e :: rest → (s.air.queue.map (·.lane)).Nodup → s.air.freeze = .none → s.air.short = false →
      0 < s.air.available →
      (e.amount ≤ s.air.available → Runs .airServing s (finish s
        (((s.setGrant e.lane (s.grant e.lane + e.amount)).dropEntry e.lane).completeAdoption e.lane).serve)) ∧
      (∃ t, Runs .airServing s t ∧ t.grant e.lane = s.grant e.lane + min e.amount s.air.available ∧
        (e.amount ≤ s.air.available → t.air.entryOf e.lane = none ∧ (e.starved = true →
          (t.entry (starvedEntry e.lane)).condition = false)) ∧
        (s.air.available < e.amount → t.air.queue = { e with amount := e.amount - s.air.available } :: rest ∧
          (∀ l, l ≠ e.lane → t.grant l = s.grant l)) ∧
        (∀ c target, (s.lane e.lane).config = some c → (s.lane e.lane).mode = .adopting target →
          (c.minAir ≤ t.grant e.lane → ∃ (command : Nat) (correction : Int), t.lane e.lane = { s.lane e.lane with
              mode := target.mode, demand := c.minAir, lastValveGrant := c.minAir, timer := some c.period,
              correction := correction, valveCommand := command,
              sup := { (s.lane e.lane).sup with moving := false, preGrant := none, retry := .none, command := command },
              bumpless := decide (target = .auto) || (s.lane e.lane).bumpless,
              manualAir := if target = .manual then c.minAir else (s.lane e.lane).manualAir } ∧
            (s.SlotsClaimed → t.drives c.valveSlot command) ∧
            (∀ (num : Int) (den limit : Nat), (num, den) = inverseCurve c.minAir (s.lane e.lane).curve →
              limit = (s.lane e.lane).correctionLimit →
              (c.feedbackPoint.bind s.goodValue = none →
                correction = 0 ∧ command = valveCommandFor (s.lane e.lane).curve c.minAir 0) ∧
              (∀ v, c.feedbackPoint.bind s.goodValue = some v →
                ((v * den - num).natAbs ≤ limit * den →
                  correction = roundDiv (v * den - num) den ∧ command = clampNat 0 1000 v) ∧
                ((limit * den : Int) < v * den - num →
                  correction = limit ∧ command = valveCommandFor (s.lane e.lane).curve c.minAir limit) ∧
                (v * den - num < -(limit * den : Int) →
                  correction = -(limit : Int) ∧ command = valveCommandFor (s.lane e.lane).curve c.minAir (-limit))))) ∧
          (t.grant e.lane < c.minAir → t.lane e.lane = s.lane e.lane)) ∧
        t.air.capacity = s.air.capacity ∧ t.air.params = s.air.params ∧ OnlyAir s t)) ∧
    (∀ n, s.air.freeze = .seconds n →
      Runs .freezeEnd s (finish s (State.serve { s with air := { s.air with freeze := .none } }))) ∧
    (∀ l e, s.air.entryOf l = some e → e.starved = false → ∃ t, Runs (.entryStarved l) s t ∧
      t.air.entryOf l = some { e with starved := true } ∧ (t.entry (starvedEntry l)).condition = true ∧
      t.air.grants = s.air.grants ∧ t.lanes = s.lanes ∧ t.slots = s.slots ∧ OnlyAir s t))

/-- Serving never takes the grants above the online capacity (R50), and every step keeps the allocator's records in order
(R46, R48, R59, R83): the grants within the online capacity unless SHORT, one queue entry a lane, and the online order the
capacity list's order, holding exactly the ONLINE blowers. With them a lane is UNCONFIGURED exactly while it has no
configuration (R1). -/
def Obligations.EveryStepKeepsTheAirInOrder : Prop :=
  (∀ s : State, s.air.sumGrants ≤ s.air.online → s.serve.air.sumGrants ≤ s.serve.air.online) ∧
  (∀ s t : State, s.AirInOrder → step s = .next t → t.AirInOrder)

/-- The cut and the loss claim (R57, R58, R59). Grants are lowered only, to the online capacity or until no lane may be
cut; first the lanes in ADOPTING, to 0 and with what is taken put back into their entries, then the lanes with the hold mark
CLEAR, to their min air; in each stage the least urgent priority in force first (R2), then the largest grant, then the
higher number. -/
def Obligations.CutLowersGrantsInOrder : Prop :=
  ∀ s : State,
    (s.air.sumGrants ≤ s.air.online → s.cut.air.grants = s.air.grants) ∧
    (s.air.online < s.air.sumGrants →
      (∀ l, s.cut.grant l ≤ s.grant l) ∧ s.air.online ≤ s.cut.air.sumGrants ∧
      s.cut.air.short = decide (s.air.online < s.cut.air.sumGrants) ∧
      (s.air.short = false → s.cut.air.short = true → (s.cut.entry airShortEntry).condition = true) ∧
      (∀ l, (s.lane l).mode.isAdopting = false → s.air.holdMarks[l] = true → s.cut.grant l = s.grant l) ∧
      (∀ l, (s.lane l).mode.isAdopting = false → min (s.minAir l) (s.grant l) ≤ s.cut.grant l) ∧
      (∀ x y, (s.lane x).mode.isAdopting = true → (s.lane y).mode.isAdopting = false → s.cut.grant y < s.grant y →
        s.cut.grant x = 0) ∧
      (∀ x y, (s.lane x).mode.isAdopting = (s.lane y).mode.isAdopting → s.cutBefore x y = true →
        s.cut.grant y < s.grant y →
        ((s.lane x).mode.isAdopting = true → s.cut.grant x = 0) ∧
        ((s.lane x).mode.isAdopting = false → s.air.holdMarks[x] = false → s.cut.grant x ≤ s.minAir x)) ∧
      (s.air.online < s.cut.air.sumGrants → ∀ l, (s.lane l).mode.isAdopting = false → s.air.holdMarks[l] = false →
        s.cut.grant l ≤ s.minAir l) ∧
      (∀ l e, s.air.entryOf l = some e → s.cut.air.entryOf l = some (if (s.lane l).mode.isAdopting = true then
        { e with amount := e.amount + (s.grant l - s.cut.grant l) } else e)) ∧
      s.cut.lanes = s.lanes ∧ s.cut.slots = s.slots ∧ s.cut.air.capacity = s.air.capacity ∧ OnlyAlarms s
        { s.cut with air := s.air }) ∧
    (∀ b, (s.air.brought b = none → s.loseCapacity b = s) ∧
      (s.air.brought b ≠ none → (s.loseCapacity b).air.capacity = s.air.capacity.filter (fun e => e.1 ≠ b) ∧
        (0 < (s.dropCapacity b).excess → (s.loseCapacity b).air.grants = (s.dropCapacity b).cut.air.grants) ∧
        (∀ n m, s.air.shortfall = some n → (s.loseCapacity b).air.shortfall = some m → m = n) ∧
        (∀ n, (s.loseCapacity b).air.surplus = some n → n = s.air.params.stageOutDelay)))

/-! ### Blowers and the header (chapter 4) -/

/-- BLOWER_SET (R68, R69): its refusals in their order, and what a taken one leaves; a change of one slot releases and
claims all three (assumption log 33). A changed min or max speed of a blower in the online order recomputes the speed range
(R90). -/
def Obligations.BlowerSetTaken : Prop :=
  ∀ (s : State) (len : Nat) (b : BlowerId) (f : BlowerFields), s.Hears → lengthFor len (.u8 b :: f.wire) = true →
    (f.inRange = false → Refuses (.blowerSet len b f) s 0x28 .range) ∧
    (f.inRange = true → (∃ g, (s.blower b).config = some g ∧ f.sameStructure g = false) →
      (s.blower b).takesStructure = false → Refuses (.blowerSet len b f) s 0x28 .state) ∧
    (f.inRange = true → ((s.blower b).config.all f.sameStructure = true ∨ (s.blower b).takesStructure = true) →
      ((s.pointAt f.runPoint).kind = .analog ∨ (s.pointAt f.flowPoint).kind = .discrete ∨
        (∃ p ∈ f.blowoffPoint, (s.pointAt p).kind = .discrete) ∨
        (∃ x ∈ blowerSlots b f, s.slotFree x.1 x.2 = false) → Refuses (.blowerSet len b f) s 0x28 .conflict) ∧
      ((s.pointAt f.runPoint).kind ≠ .analog → (s.pointAt f.flowPoint).kind ≠ .discrete →
        (∀ p, f.blowoffPoint = some p → (s.pointAt p).kind ≠ .discrete) →
        (∀ x ∈ blowerSlots b f, s.slotFree x.1 x.2 = true) → ∃ t, Runs (.blowerSet len b f) s t ∧
          (t.blower b).config = some f ∧
          ((s.blower b).state = .unconfigured → (t.blower b).state = .adopting) ∧
          ((s.blower b).state ≠ .unconfigured → (t.blower b).state = (s.blower b).state) ∧
          ((s.blower b).config.map (blowerSlots b) ≠ some (blowerSlots b f) → ∀ x ∈ blowerSlots b f, ∀ q : SlotId,
            q.val = x.1 → (t.slot q).claimant = x.2) ∧
          (∀ g, (s.blower b).config = some g → blowerSlots b g ≠ blowerSlots b f → ∀ q : SlotId,
            (∃ x ∈ blowerSlots b g, q.val = x.1) → (∀ x ∈ blowerSlots b f, q.val ≠ x.1) →
            (t.slot q).claimant = .none ∧ (b ∉ s.online → (t.slot q).value = 0 ∧ (t.slot q).valid = false)) ∧
          (∀ x, x ≠ b → t.blower x = s.blower x) ∧ t.online = s.online ∧
          (∀ g, (s.blower b).config = some g → b ∈ s.online →
            g.seq.minSpeed ≠ f.seq.minSpeed ∨ g.seq.maxSpeed ≠ f.seq.maxSpeed → SpeedRangeTaken s t) ∧
          ((s.blower b).config = none ∨ b ∉ s.online ∨ (∃ g, (s.blower b).config = some g ∧
            g.seq.minSpeed = f.seq.minSpeed ∧ g.seq.maxSpeed = f.seq.maxSpeed) → t.header = s.header) ∧
          t.reply = taken 0x28 [.u8 (t.blower b).state.code] ∧ OnlyControl s t))

/-- BLOWER_COMMAND START and STOP (R71, R76, R79, R80), with the START request and its outcome (R98), the speed range after
a stop (R90), and the run, speed and blow-off outputs (R69). -/
def Obligations.BlowerStartAndStop : Prop :=
  ∀ (s : State) (b : BlowerId), s.Hears →
    ((s.blower b).state = .unconfigured →
      Refuses (.blowerStart 3 b) s 0x29 .unconfigured ∧ Refuses (.blowerStop 3 b) s 0x29 .unconfigured) ∧
    ((s.blower b).state ≠ .unconfigured → (s.blower b).state ≠ .off → Refuses (.blowerStart 3 b) s 0x29 .state) ∧
    ((s.blower b).state = .adopting → Refuses (.blowerStop 3 b) s 0x29 .state) ∧
    (∀ c, (s.blower b).config = some c → (s.blower b).state = .off → ∃ t, Runs (.blowerStart 3 b) s t ∧
      ((t.blower b).state = .starting .waitPower .command c.seq ∨
        (t.blower b).state = .starting .blowoffOpen .command c.seq) ∧
      (t.blower b).foundRunning = 0 ∧
      (t.blower b).result.map (fun x => (x.attempts, x.cause, x.outcome)) = some (1, .none, .inProgress) ∧
      StartAsked b c .command c.seq s t ∧ (s.SlotsClaimed → t.drivesBlower c 0 0 1000) ∧
      t.online = s.online ∧ t.reply = taken 0x29 [.u8 3] ∧ OnlyPower s t) ∧
    (∀ x, (s.blower b).state = x → x = .off ∨ x = .tripped ∨ x = .failed ∨ x = .lockedOut ∨ x = .stopping .unloading ∨
      x = .stopping .runDown → Answers (.blowerStop 3 b) s s 0x29 [.u8 x.code]) ∧
    (∀ c step origin copy, (s.blower b).config = some c → (s.blower b).state = .starting step origin copy →
      ∃ t, Runs (.blowerStop 3 b) s t ∧
        ((step = .waitPower ∨ step = .blowoffOpen ∨ step = .retryWait) → (t.blower b).state = .off) ∧
        ((step = .motorStart ∨ step = .ramp ∨ step = .loading) → (t.blower b).state = .stopping .runDown ∧
          (t.blower b).stepTimer = some (50 * c.seq.stopConfirm)) ∧
        (t.blower b).result.map (·.outcome) = (s.blower b).result.map (fun _ => .aborted) ∧
        (s.SlotsClaimed → t.drivesBlower c 0 0 1000) ∧ t.online = s.online ∧ OnlyPower s t) ∧
    (∀ c, (s.blower b).config = some c → (s.blower b).state = .online → ∃ t, Runs (.blowerStop 3 b) s t ∧
      (t.blower b).state = .stopping .unloading ∧ (t.blower b).stepTimer = some (50 * c.seq.blowoffTime) ∧
      (t.blower b).power = (s.blower b).power ∧ t.online = s.online.filter (· ≠ b) ∧ t.air.brought b = none ∧
      (s.SlotsClaimed → t.drivesBlower c 1 c.seq.minSpeed 1000) ∧ SpeedRangeTaken s t ∧ t.budget = s.budget ∧
      t.reply = taken 0x29 [.u8 5] ∧ OnlyControl s t)

/-- BLOWER_COMMAND RESET, LOCKOUT and UNLOCK (R80, R133), with the outputs (R69). -/
def Obligations.BlowerResetLockoutUnlock : Prop :=
  ∀ (s : State) (b : BlowerId), s.Hears →
    ((s.blower b).state = .unconfigured → Refuses (.blowerReset 3 b) s 0x29 .unconfigured ∧
      Refuses (.blowerLockout 3 b) s 0x29 .unconfigured ∧ Refuses (.blowerUnlock 3 b) s 0x29 .unconfigured) ∧
    ((s.blower b).state ≠ .unconfigured →
    (((s.blower b).state = .tripped ∨ ((s.blower b).state = .failed ∧ (s.blower b).power = .none)) →
      ∃ t, Runs (.blowerReset 3 b) s t ∧ (t.blower b).state = .off ∧ (t.blower b).foundRunning = 0 ∧
        ((s.blower b).state = .tripped → (t.entry (tripEntry b)).condition = false) ∧
        ((s.blower b).state = .failed → (t.entry (startFailedEntry b)).condition = false) ∧
        (∀ c, (s.blower b).config = some c → s.SlotsClaimed → t.drivesBlower c 0 0 1000) ∧ t.reply = taken 0x29 [.u8 2] ∧ OnlyPower s t ∧ t.budget = s.budget) ∧
    ((s.blower b).state ≠ .tripped → ((s.blower b).state = .failed → (s.blower b).power ≠ .none) →
      Refuses (.blowerReset 3 b) s 0x29 .state) ∧
    ((s.blower b).lockable = true → ∃ t, Runs (.blowerLockout 3 b) s t ∧ (t.blower b).state = .lockedOut ∧
      (∀ e ∈ blowerEntries b, (t.entry e).condition = false) ∧ t.alarm.blowerFlags[b] = true ∧
      (∀ c, (s.blower b).config = some c → s.SlotsClaimed → t.drivesBlower c 0 0 0) ∧
      t.reply = taken 0x29 [.u8 8] ∧ OnlyPower s t ∧ t.budget = s.budget) ∧
    ((s.blower b).lockable = false → Refuses (.blowerLockout 3 b) s 0x29 .state) ∧
    ((s.blower b).state = .lockedOut → ∃ t, Runs (.blowerUnlock 3 b) s t ∧ (t.blower b).state = .off ∧
      (∀ c, (s.blower b).config = some c → s.SlotsClaimed → t.drivesBlower c 0 0 1000) ∧
      t.alarm.blowerFlags[b] = false ∧ t.reply = taken 0x29 [.u8 2] ∧ OnlyPower s t ∧ t.budget = s.budget) ∧
    ((s.blower b).state ≠ .lockedOut → Refuses (.blowerUnlock 3 b) s 0x29 .state))

/-- DUTY_SET and HEADER_SET (R84, R89). -/
def Obligations.DutyAndHeaderSetTaken : Prop :=
  ∀ s : State, s.Hears →
    (∀ (len : Nat) (duty : List BlowerId), duty.length ≤ 6 → lengthFor len (dutyWire (duty.map (·.val))) = true →
      (duty.Nodup → (∀ b ∈ duty, (s.blower b).state ≠ .unconfigured) →
        Answers (.dutySet len (duty.map (·.val))) s { s with duty := duty } 0x2A (dutyWire (duty.map (·.val)))) ∧
      (¬ duty.Nodup ∨ (∃ b ∈ duty, (s.blower b).state = .unconfigured) →
        Refuses (.dutySet len (duty.map (·.val))) s 0x2A .range)) ∧
    (∀ (len : Nat) (duty : List Nat), duty.length ≤ 6 → lengthFor len (dutyWire duty) = true → (∃ n ∈ duty, 5 < n) →
      Refuses (.dutySet len duty) s 0x2A .range) ∧
    (∀ f : HeaderFields,
      (f.inRange = false → Refuses (.headerSet 22 f) s 0x2B .range) ∧
      (f.inRange = true → (s.pointAt f.pressurePoint).kind = .discrete → Refuses (.headerSet 22 f) s 0x2B .conflict) ∧
      (f.inRange = true → (s.pointAt f.pressurePoint).kind ≠ .discrete → ∃ h : Header,
        Answers (.headerSet 22 f) s { s with header := h } 0x2B (f.wire ++ [.u16 h.setpoint]) ∧
        h.config = some f ∧ h.commonSpeed = s.header.commonSpeed ∧ h.range = s.header.range ∧
        h.lastMov = s.header.lastMov ∧
        (s.header.config = none → h.setpoint = f.initialSetpoint ∧ h.previousError = none ∧
          h.timer = some f.headerPeriod ∧ h.movTimer = some f.movPeriod) ∧
        (s.header.config.isSome → h.setpoint = clampNat f.minSetpoint f.maxSetpoint s.header.setpoint ∧
          h.previousError = s.header.previousError ∧ h.timer = s.header.timer ∧ h.movTimer = s.header.movTimer)))

/-- A blower's starting steps end (R72 to R75): by their times, or with a deferral, with the outputs (R69), the START request
of a retry (R71, R98) and the speed range as the blower comes ONLINE (R90). A retry delay of 0 leaves no step timer
(assumption log 26). -/
def Obligations.BlowerStartEvents : Prop :=
  ∀ (s : State) (b : BlowerId) (c : BlowerFields) (step : StartStep) (origin : Origin) (copy : SeqFields)
    (x : StartResult), s.held = false → (s.blower b).config = some c →
    (s.blower b).state = .starting step origin copy → (s.blower b).result = some x →
    (∀ (i : Instr) (cause : FailureCause),
      ((i = .blowoffTimeEnd b ∧ cause = .blowoffTimeout ∧ c.blowoffPoint.isSome ∧
          (step = .blowoffOpen ∨ step = .loading)) ∨
        (i = .runConfirmTimeout b ∧ cause = .noRunFeedback ∧ step = .motorStart) ∨
        (i = .rampTimeout b ∧ cause = .rampTimeout ∧ step = .ramp)) →
      ∃ t, Runs i s t ∧ (t.blower b).power = .none ∧ (t.blower b).result.map (·.cause) = some cause ∧
        (x.attempts < copy.attemptLimit → (t.blower b).state = .starting .retryWait origin copy ∧
          (t.blower b).stepTimer = (if copy.retryDelay = 0 then none else some (50 * copy.retryDelay))) ∧
        (copy.attemptLimit ≤ x.attempts → (t.blower b).state = .failed ∧
          (t.entry (startFailedEntry b)).condition = true) ∧ (s.SlotsClaimed → t.drivesBlower c 0 0 1000) ∧
        t.online = s.online ∧ t.lanes = s.lanes ∧ t.air = s.air ∧ OnlyControl s t) ∧
    (c.blowoffPoint = none → step = .blowoffOpen → ∃ t, Runs (.blowoffTimeEnd b) s t ∧
      (t.blower b).state = .starting .motorStart origin copy ∧
      (t.blower b).stepTimer = some (50 * copy.runConfirm) ∧
      (s.SlotsClaimed → t.drivesBlower c 1 copy.minSpeed 1000) ∧ OnlyPower s t ∧ t.budget = s.budget) ∧
    (c.blowoffPoint = none → step = .loading → ∃ t, Runs (.blowoffTimeEnd b) s t ∧ (t.blower b).state = .online ∧
      t.online = s.online ++ [b] ∧ t.air.capacity = s.air.capacity ++ [(b, c.ratedCapacity)] ∧
      (t.blower b).power = .run ∧ (t.blower b).result.map (·.outcome) = some .online ∧
      (s.SlotsClaimed → t.drivesBlower c 1 t.header.commonSpeed 0) ∧ SpeedRangeTaken s t ∧ OnlyControl s t) ∧
    (step = .retryWait → ∃ t, Runs (.retryDelayEnd b) s t ∧
      ((t.blower b).state = .starting .waitPower origin copy ∨ (t.blower b).state = .starting .blowoffOpen origin copy) ∧
      (t.blower b).result.map (·.attempts) = some (x.attempts + 1) ∧ StartAsked b c origin copy s t ∧
      (s.SlotsClaimed → t.drivesBlower c 0 0 1000) ∧ OnlyPower s t) ∧
    (step = .waitPower → ∃ t, Runs (.startDeferred b) s t ∧ (t.entry (startDeferredEntry b)).condition = true ∧
      (t.blower b).state = (s.blower b).state ∧ t.slots = s.slots ∧ OnlyPower s t ∧ t.budget = s.budget)

/-- A blower's other events (R79, R82, R87), and the surge offer with more blowers online than the minimum (R88), where the
last blower of the online order is ONLINE, as every one in it is (R83, EveryStepKeepsTheAirInOrder), with the outputs (R69) and the speed range where the online order changes (R90). -/
def Obligations.BlowerRunAndStopEvents : Prop :=
  ∀ (s : State) (b : BlowerId) (c : BlowerFields), s.held = false → (s.blower b).config = some c →
    ((s.blower b).state = .stopping .unloading → ∃ t, Runs (.unloadingTimeEnd b) s t ∧
      (t.blower b).state = .stopping .runDown ∧ (t.blower b).stepTimer = some (50 * c.seq.stopConfirm) ∧
      (s.SlotsClaimed → t.drivesBlower c 0 0 1000) ∧ OnlyPower s t ∧ t.budget = s.budget) ∧
    ((s.blower b).state = .stopping .runDown → ∃ t, Runs (.stopConfirmTimeout b) s t ∧ (t.blower b).state = .failed ∧
      (t.blower b).result.map (·.cause) = some .noStop ∧ (t.blower b).power = (s.blower b).power ∧
      (s.SlotsClaimed → t.drivesBlower c 0 0 1000) ∧
      (t.entry (startFailedEntry b)).condition = true ∧ OnlyPower s t ∧ t.budget = s.budget) ∧
    ((s.blower b).state = .off → ∃ t, Runs (.blowerFoundRunning b) s t ∧ (t.blower b).state = .online ∧
      (t.blower b).power = .run ∧ (t.blower b).foundRunning = 0 ∧ t.online = s.online ++ [b] ∧
      (s.SlotsClaimed → t.drivesBlower c 1 t.header.commonSpeed 0) ∧ SpeedRangeTaken s t ∧
      t.air.capacity = s.air.capacity ++ [(b, c.ratedCapacity)] ∧ OnlyControl s t) ∧
    ((s.blower b).state = .online → (s.blower b).surge.phase ≠ .holding →
      (s.online.length ≤ s.air.params.minOnline ∨ (∀ x, s.online.getLast? = some x → s.air.brought x = none ∨
        s.air.capacity.length ≤ s.air.params.minOnline ∨
        s.air.online < s.air.sumGrants + (s.air.brought x).getD 0)) → ∃ t, Runs (.surgeDetected b) s t ∧
        (t.blower b).surge.phase = .holding ∧ (t.blower b).surge.remaining = 50 * c.seq.surgeHold ∧
        (t.blower b).surge.lowFlow = 0 ∧ (t.blower b).state = .online ∧
        (s.SlotsClaimed → t.drivesBlower c 1 s.header.commonSpeed 1000) ∧
        (t.entry (surgeEntry b)).condition = true ∧ OnlyPower s t ∧ t.budget = s.budget) ∧
    (∀ x, s.online.getLast? = some x → (s.blower x).state = .online → (s.blower x).config.isSome → s.air.brought x ≠ none →
      s.air.params.minOnline < s.air.capacity.length → s.air.sumGrants + (s.air.brought x).getD 0 ≤ s.air.online →
      s.air.params.minOnline < s.online.length → (s.blower b).state = .online → (s.blower b).surge.phase ≠ .holding →
      ∃ t, Runs (.surgeDetected b) s t ∧ (t.blower x).state = .stopping .unloading ∧
        t.online = s.online.filter (· ≠ x) ∧ t.air.brought x = none ∧ t.air.grants = s.air.grants ∧
        SpeedRangeTaken s t ∧
        (x ≠ b → (t.blower b).surge.phase = .holding ∧ (t.blower b).state = .online ∧
          (t.entry (surgeEntry b)).condition = true) ∧
        (s.SlotsClaimed → (∀ g, (s.blower x).config = some g → t.drivesBlower g 1 g.seq.minSpeed 1000) ∧
          (x ≠ b → t.drivesBlower c 1 t.header.commonSpeed 1000)) ∧
        (t.entry (surgeEntry x)).condition = false ∧
        t.budget = s.budget ∧ OnlyControl s t) ∧
    ((s.blower b).state = .online → (s.blower b).surge.phase = .holding → ∃ t, Runs (.surgeHoldEnd b) s t ∧
      (t.blower b).surge.phase = .watching ∧ (t.blower b).surge.remaining = 50 * c.seq.surgeHold ∧
      (t.blower b).state = .online ∧ (s.SlotsClaimed → t.drivesBlower c 1 s.header.commonSpeed 0) ∧ OnlyPower s t ∧
      t.budget = s.budget) ∧
    ((s.blower b).state = .online → (s.blower b).surge.phase = .watching → ∃ t, Runs (.surgeWatchEnd b) s t ∧
      (t.blower b).surge.phase = .idle ∧ (t.blower b).surge.lowFlow = (s.blower b).surge.lowFlow ∧
      (t.entry (surgeEntry b)).condition = false ∧
      (t.blower b).state = .online ∧ t.slots = s.slots ∧ OnlyPower s t ∧ t.budget = s.budget)

/-- What a frame update of a blower's running feedback does (R73, R74, R77 to R79, R81, R82), with the outputs (R69) and the
speed range where the online order changes (R90): `sample` is absent while the point is not GOOD, else whether the motor runs.
A retry delay of 0 leaves no step timer (assumption log 26). -/
def Obligations.BlowerRunningFeedback : Prop :=
  ∀ (s : State) (b : BlowerId) (c : BlowerFields) (sample : Option Bool), (s.blower b).config = some c →
    ∃ t, t = s.testRunning b sample ∧
    -- adoption, and the found-running count
    (((s.blower b).state = .adopting ∧ sample = some true) ∨
      ((s.blower b).state = .off ∧ sample = some true ∧ 4 ≤ (s.blower b).foundRunning) →
      (t.blower b).state = .online ∧ (t.blower b).power = .run ∧ (t.blower b).foundRunning = 0 ∧
      (t.blower b).blind = false ∧ (t.blower b).surge.phase = .idle ∧ t.online = s.online ++ [b] ∧
      t.air.capacity = s.air.capacity ++ [(b, c.ratedCapacity)] ∧
      (s.SlotsClaimed → t.drivesBlower c 1 t.header.commonSpeed 0) ∧ SpeedRangeTaken s t ∧
      (t.budget.commitOf (.blower b)).isSome = true ∧ OnlyControl s t) ∧
    ((s.blower b).state = .adopting → sample = some false → (t.blower b).state = .off ∧ (t.blower b).power = .none ∧
      (t.blower b).foundRunning = 0 ∧ (s.SlotsClaimed → t.drivesBlower c 0 0 1000) ∧ t.budget = s.budget ∧
      t.online = s.online ∧ OnlyPower s t) ∧
    ((s.blower b).state = .off → sample = some true → (s.blower b).foundRunning < 4 →
      t = s.setBlower b { s.blower b with foundRunning := (s.blower b).foundRunning + 1 }) ∧
    ((s.blower b).state = .off → sample ≠ some true → t = s.setBlower b { s.blower b with foundRunning := 0 }) ∧
    -- the steps of a start
    (∀ origin copy, (s.blower b).state = .starting .motorStart origin copy → sample = some true →
      (t.blower b).state = .starting .ramp origin copy ∧ (t.blower b).stepTimer = some (50 * copy.rampTime) ∧
      (s.SlotsClaimed → t.drivesBlower c 1 copy.minSpeed 1000) ∧
      t.budget = s.budget ∧ OnlyPower s t) ∧
    (∀ step origin copy x, (s.blower b).state = .starting step origin copy → (s.blower b).result = some x →
      step = .ramp ∨ step = .loading → sample = some false →
      (t.blower b).power = .none ∧ (t.blower b).result.map (·.cause) = some .trippedInStart ∧
      (x.attempts < copy.attemptLimit → (t.blower b).state = .starting .retryWait origin copy ∧
        (t.blower b).stepTimer = (if copy.retryDelay = 0 then none else some (50 * copy.retryDelay))) ∧
      (copy.attemptLimit ≤ x.attempts → (t.blower b).state = .failed ∧
        (t.entry (startFailedEntry b)).condition = true) ∧ (s.SlotsClaimed → t.drivesBlower c 0 0 1000) ∧
      t.online = s.online ∧ OnlyControl s t) ∧
    (∀ step origin copy, (s.blower b).state = .starting step origin copy →
      step = .waitPower ∨ step = .blowoffOpen ∨ step = .retryWait ∨ (step = .motorStart ∧ sample ≠ some true) ∨
        ((step = .ramp ∨ step = .loading) ∧ sample ≠ some false) → t = s) ∧
    -- ONLINE: the blind flag, and the trip
    ((s.blower b).state = .online → sample ≠ some false →
      ((s.blower b).blind = sample.isNone → t = s) ∧
      ((s.blower b).blind ≠ sample.isNone → t = (s.setBlower b { s.blower b with blind := sample.isNone }).notify
        (.blower b) .stateChanged)) ∧
    ((s.blower b).state = .online → sample = some false → (t.blower b).state = .tripped ∧
      (t.blower b).power = .none ∧ (t.blower b).surge.phase = .idle ∧ (t.blower b).blind = false ∧
      t.online = s.online.filter (· ≠ b) ∧ t.air.brought b = none ∧ (t.entry (tripEntry b)).condition = true ∧
      SpeedRangeTaken s t ∧
      (t.entry (surgeEntry b)).condition = false ∧ (s.SlotsClaimed → t.drivesBlower c 0 0 1000) ∧
      (s.budget.waitOf (.blower b) = none → t.budget.commitOf (.blower b) = none) ∧ OnlyControl s t) ∧
    -- stopping
    (∀ step, (s.blower b).state = .stopping step → sample = some false → (t.blower b).state = .off ∧
      (t.blower b).power = .none ∧ (s.budget.waitOf (.blower b) = none → t.budget.commitOf (.blower b) = none) ∧
      (s.SlotsClaimed → t.drivesBlower c 0 0 1000) ∧ t.online = s.online ∧ OnlyPower s t) ∧
    ((s.blower b).state = .failed → (s.blower b).power ≠ .none → sample = some false →
      (t.blower b).state = .failed ∧ (t.blower b).power = .none ∧
      (s.budget.waitOf (.blower b) = none → t.budget.commitOf (.blower b) = none) ∧ OnlyPower s t) ∧
    ((∃ step, (s.blower b).state = .stopping step ∧ sample ≠ some false) ∨
      ((s.blower b).state = .failed ∧ ((s.blower b).power = .none ∨ sample ≠ some false)) ∨
      (s.blower b).state = .tripped ∨ (s.blower b).state = .lockedOut ∨ (s.blower b).state = .unconfigured ∨
      ((s.blower b).state = .adopting ∧ sample = none) → t = s)

/-- What a judgment of a hub does at a blower (R70, R73, R74, R75, R79, R87): the tests of the points on that hub, the
running feedback, the blow-off feedback and the flow in this order; then, where the step and the guard's phase stand as
before the judgment, one frame of time at the point that the step waits on (assumption log 6), whose end is that of the
step's own event. A blower that another one's release admits in the judgment is tested on its blow-off sample at once and
counts that frame for neither step: the model's (log 33). A retry delay of 0 ends at the next update of the running point,
not in the judgment in which the attempt failed (log 26). The outputs of the steps entered are R69's, the speed range of a
blower that comes ONLINE R90's. -/
def Obligations.BlowerFrameUpdates : Prop :=
  ∀ (s : State) (b : BlowerId) (c : BlowerFields), (s.blower b).config = some c →
    (∀ (h : HubId) (before : State), ∃ s1 s2 s3 : State,
      s1 = (if onHub h c.runPoint then s.testRunning b ((s.goodValue c.runPoint).map (· != 0)) else s) ∧
      s2 = (if c.blowoffPoint.any (onHub h) then s1.testBlowoff b (c.blowoffPoint.bind s1.goodValue) else s1) ∧
      s3 = (if onHub h c.flowPoint then s2.testFlow b c (s2.goodValue c.flowPoint) else s2) ∧
      ((s3.blower b).state ≠ (before.blower b).state ∨ (s3.blower b).surge.phase ≠ (before.blower b).surge.phase →
        State.blowerFrame h before b s = s3) ∧
      ((s3.blower b).state = (before.blower b).state → (s3.blower b).surge.phase = (before.blower b).surge.phase →
        ∃ s4, s4 = (if (timedPoint c (s3.blower b)).any (onHub h) then s3.countBlowerTime b c else s3) ∧
          State.blowerFrame h before b s =
            (if (before.blower b).state.retrying ∧ onHub h c.runPoint ∧ (s4.blower b).state.retrying ∧
                (s4.blower b).stepTimer = none ∧ s.goodValue c.runPoint = some 0 then
              match (s4.blower b).state with
              | .starting _ origin copy => s4.enterWaitPower b origin copy
              | _ => s4
            else s4))) ∧
    -- the blow-off feedback
    (∀ origin copy v, (s.blower b).state = .starting .blowoffOpen origin copy →
      (v < 950 → s.testBlowoff b (some v) = s) ∧
      (950 ≤ v → ((s.testBlowoff b (some v)).blower b).state = .starting .motorStart origin copy ∧
        ((s.testBlowoff b (some v)).blower b).stepTimer = some (50 * copy.runConfirm) ∧
        (s.SlotsClaimed → (s.testBlowoff b (some v)).drivesBlower c 1 copy.minSpeed 1000) ∧
        OnlyPower s (s.testBlowoff b (some v)))) ∧
    (∀ origin copy v, (s.blower b).state = .starting .loading origin copy →
      (50 < v → s.testBlowoff b (some v) = s) ∧
      (v ≤ 50 → ((s.testBlowoff b (some v)).blower b).state = .online ∧
        (s.testBlowoff b (some v)).online = s.online ++ [b] ∧
        (s.testBlowoff b (some v)).air.capacity = s.air.capacity ++ [(b, c.ratedCapacity)] ∧
        ((s.testBlowoff b (some v)).blower b).power = .run ∧
        (s.SlotsClaimed → (s.testBlowoff b (some v)).drivesBlower c 1 (s.testBlowoff b (some v)).header.commonSpeed 0) ∧
        SpeedRangeTaken s (s.testBlowoff b (some v)) ∧ OnlyControl s (s.testBlowoff b (some v)))) ∧
    (∀ v, (s.blower b).state = .stopping .unloading →
      (v < 950 → s.testBlowoff b (some v) = s) ∧
      (950 ≤ v → ((s.testBlowoff b (some v)).blower b).state = .stopping .runDown ∧
        ((s.testBlowoff b (some v)).blower b).stepTimer = some (50 * c.seq.stopConfirm) ∧
        (s.SlotsClaimed → (s.testBlowoff b (some v)).drivesBlower c 0 0 1000))) ∧
    s.testBlowoff b none = s ∧
    -- the flow
    (∀ origin copy v, (s.blower b).state = .starting .ramp origin copy →
      (v < (c.surgeMinFlow : Int) → s.testFlow b c (some v) = s) ∧ s.testFlow b c none = s ∧
      ((c.surgeMinFlow : Int) ≤ v → ((s.testFlow b c (some v)).blower b).state = .starting .loading origin copy ∧
        ((s.testFlow b c (some v)).blower b).stepTimer = some (50 * copy.blowoffTime) ∧
        (s.air.params.loadFreeze < 65535 → s.air.freeze = .none → (s.testFlow b c (some v)).air.freeze =
          (if s.air.params.loadFreeze = 0 then .none else .seconds s.air.params.loadFreeze)) ∧
        (s.SlotsClaimed → (s.testFlow b c (some v)).drivesBlower c 1
          (clampNat copy.minSpeed copy.maxSpeed s.header.commonSpeed) 0) ∧
        OnlyControl s (s.testFlow b c (some v)))) ∧
    (∀ flow : Option Int, ∀ low : Bool, low = flow.any (fun v => decide (v < (c.surgeMinFlow : Int))) →
      (s.blower b).state = .online →
      ((s.blower b).surge.phase = .holding → s.testFlow b c flow = s) ∧
      ((s.blower b).surge.phase ≠ .holding → low = false → s.testFlow b c flow =
        s.setBlower b { s.blower b with surge := { (s.blower b).surge with lowFlow := 0 } }) ∧
      ((s.blower b).surge.phase ≠ .holding → low = true → ∀ n, n = min 250 ((s.blower b).surge.lowFlow + 1) →
        (s.blower b).surge.lowFlow ≤ 250 → ∃ u : State,
        u = s.setBlower b { s.blower b with surge := { (s.blower b).surge with lowFlow := n } } ∧
        (n < (s.blower b).surge.threshold → s.testFlow b c flow = u) ∧
        ((s.blower b).surge.threshold ≤ n → s.held = false →
          Runs (.surgeDetected b) u (finish u (s.testFlow b c flow))))) ∧
    -- the time
    (s.held = false →
      (∀ i, (s.blower b).stepTimer.any (fun n => decide (n ≤ 1)) = true →
        ((∃ step origin copy, (s.blower b).state = .starting step origin copy ∧
            ((i = .blowoffTimeEnd b ∧ (step = .blowoffOpen ∨ step = .loading)) ∨
              (i = .runConfirmTimeout b ∧ step = .motorStart) ∨ (i = .rampTimeout b ∧ step = .ramp))) ∨
          ((s.blower b).state = .stopping .unloading ∧ i = .unloadingTimeEnd b) ∨
          ((s.blower b).state = .stopping .runDown ∧ i = .stopConfirmTimeout b)) →
        Runs i s (finish s (s.countBlowerTime b c))) ∧
      (∀ n, (s.blower b).state ≠ .online → (s.blower b).stepTimer = some (n + 2) →
        s.countBlowerTime b c = s.setBlower b { s.blower b with stepTimer := some (n + 1) }) ∧
      ((s.blower b).state = .online → (s.blower b).surge.phase ≠ .idle →
        (1 < (s.blower b).surge.remaining → s.countBlowerTime b c = s.setBlower b { s.blower b with
          surge := { (s.blower b).surge with remaining := (s.blower b).surge.remaining - 1 } }) ∧
        ((s.blower b).surge.remaining ≤ 1 →
          Runs (if (s.blower b).surge.phase = .holding then .surgeHoldEnd b else .surgeWatchEnd b) s
            (finish s (s.countBlowerTime b c)))))

/-- Staging and the forced stop (R56, R62, R63, R83, R85, R86, R104), the last blower of the online order being ONLINE, as
every one in it is (EveryStepKeepsTheAirInOrder), with the START request (R71, R98) and the speed range (R90); the header period and the MOV period (R91, R92), with the common speed they write to the blowers (R90): the loop in
velocity form is the old speed plus Kp / 100 times the change of error, none where no previous error is held, plus Kp / 100
times the header period over Ti times the error, over one denominator and rounded once. -/
def Obligations.StagingAndHeaderEvents : Prop :=
  (∀ (s : State) (b : BlowerId) (c : BlowerFields), s.held = false → (s.blower b).config = some c →
    (s.air.shortfall.isSome → (∀ x, (s.blower x).state.staged = false) →
      s.duty.find? (fun x => (s.blower x).state = .off) = some b → ∃ t, Runs .stageInWanted s t ∧
        ((t.blower b).state = .starting .waitPower .staging c.seq ∨
          (t.blower b).state = .starting .blowoffOpen .staging c.seq) ∧
        StartAsked b c .staging c.seq s t ∧ (s.SlotsClaimed → t.drivesBlower c 0 0 1000) ∧
        t.air = { s.air with shortfall := some s.air.params.stageInDelay } ∧ t.online = s.online ∧ OnlyControl s t) ∧
    (s.air.surplus.isSome → s.online.getLast? = some b → (s.blower b).state = .online → s.air.brought b ≠ none →
      s.air.params.minOnline < s.air.capacity.length →
      s.air.sumGrants + (s.air.brought b).getD 0 ≤ s.air.online → ∃ t, Runs .stageOutWanted s t ∧
        (t.blower b).state = .stopping .unloading ∧ t.online = s.online.filter (· ≠ b) ∧ t.air.brought b = none ∧
        (s.SlotsClaimed → t.drivesBlower c 1 c.seq.minSpeed 1000) ∧ SpeedRangeTaken s t ∧
        t.air.grants = s.air.grants ∧ t.budget = s.budget ∧ OnlyControl s t) ∧
    (s.budget.shedTimer.isSome → s.budget.over = true → 1 < s.online.length → s.online.getLast? = some b →
      (s.blower b).state = .online → ∃ t, Runs .shedTimerExpiry s t ∧ (t.blower b).state = .stopping .unloading ∧
        (s.SlotsClaimed → t.drivesBlower c 1 c.seq.minSpeed 1000) ∧
        t.online = s.online.filter (· ≠ b) ∧ t.budget = { s.budget with shedTimer := some s.budget.shedDelay } ∧
        SpeedRangeTaken s t ∧
        OnlyControl s t)) ∧
  (∀ (s : State) (f : HeaderFields), s.held = false → s.LinesFollow → s.header.config = some f →
    (∃ t, Runs .headerPeriod s t ∧ t.header.timer = some f.headerPeriod ∧ t.header.setpoint = s.header.setpoint ∧
      t.header.range = s.header.range ∧
      (t.entry headerLowEntry).condition = (!s.online.isEmpty &&
        (s.goodValue f.pressurePoint).any (fun v => decide (v < (f.headerLowLimit : Int)))) ∧
      (s.online = [] → t.header.commonSpeed = s.header.commonSpeed ∧
        t.header.previousError = s.header.previousError ∧ t.slots = s.slots) ∧
      (s.online ≠ [] → s.header.range.isSome = true → s.goodValue f.pressurePoint = none →
        t.header.previousError = none ∧ t.header.commonSpeed = s.header.commonSpeed) ∧
      (s.online ≠ [] → s.header.range.isSome = true → s.SlotsClaimed → ∀ b c, (s.blower b).config = some c →
        ((s.blower b).state = .online → t.drives c.speedSlot t.header.commonSpeed) ∧
        (∀ origin copy, (s.blower b).state = .starting .loading origin copy →
          t.drives c.speedSlot (clampNat copy.minSpeed copy.maxSpeed t.header.commonSpeed)) ∧
        ((s.blower b).state = .stopping .unloading → ∀ q : SlotId, q.val = c.speedSlot → t.slot q = s.slot q)) ∧
      (∀ lo hi v, s.online ≠ [] → s.header.range = some (lo, hi) → s.goodValue f.pressurePoint = some v →
        ∀ error change : Int, error = (s.header.setpoint : Int) - v →
        change = (match s.header.previousError with
          | some before => error - before
          | none => 0) →
        t.header.previousError = some error ∧
        t.header.commonSpeed = clampNat lo hi (roundDiv
          (s.header.commonSpeed * (100 * f.speedTi) + f.speedKp * change * f.speedTi +
            f.speedKp * f.headerPeriod * error) (100 * f.speedTi))) ∧
      t.blowers = s.blowers ∧ t.online = s.online ∧ t.air = s.air ∧ OnlyControl s t) ∧
    (∃ t, Runs .movPeriod s t ∧ t = { s with header := t.header } ∧ t.header.movTimer = some f.movPeriod ∧
      t.header.commonSpeed = s.header.commonSpeed ∧ t.header.lastMov = s.mostOpen ∧
      (s.mostOpen = none → t.header.setpoint = s.header.setpoint) ∧
      (∀ m, s.mostOpen = some m →
        (f.movHigh < m → t.header.setpoint = clampNat f.minSetpoint f.maxSetpoint ((s.header.setpoint : Int) + f.movStep)) ∧
        (m ≤ f.movHigh → m < f.movLow →
          t.header.setpoint = clampNat f.minSetpoint f.maxSetpoint ((s.header.setpoint : Int) - f.movStep)) ∧
        (m ≤ f.movHigh → f.movLow ≤ m → t.header.setpoint = s.header.setpoint))))

/-! ### The power budget (chapter 5) -/

/-- CEILING_SET (R106): the three values; in NORMAL with the ceiling exceeded, the entry to SHEDDING (R103, R118); in
SHEDDING or after that entry with it no longer exceeded, the return to NORMAL (R105); still exceeded in SHEDDING, the shed
timer alone; in NORMAL with a ceiling raised, serving. The order in which pumps are told and act is the model's (assumption
log 33), and so is that a RUNNING pump below its min speed is raised by the cap (log 31). -/
def Obligations.CeilingSetTaken : Prop :=
  ∀ (s : State) (ceiling mode delay : Nat), s.Hears →
    (65535 < ceiling ∨ 1 < mode ∨ delay < 10 ∨ 3600 < delay → Refuses (.ceilingSet 6 ceiling mode delay) s 0x30 .range) ∧
    (ceiling ≤ 65535 → mode ≤ 1 → 10 ≤ delay → delay ≤ 3600 → ∃ t, Runs (.ceilingSet 6 ceiling mode delay) s t ∧
      t.budget.ceiling = (if ceiling = 65535 then none else some ceiling) ∧ t.budget.hard = (mode == 1) ∧
      t.budget.shedDelay = delay ∧
      (∀ u : Budget, u = { s.budget with ceiling := t.budget.ceiling, hard := t.budget.hard, shedDelay := delay } →
        -- in NORMAL, not exceeded
        (s.budget.shedding = false → u.over = false → t.budget.shedding = false ∧ t.plant = s.plant ∧
          (s.budget.ceiling.any (fun old => decide (old < ceiling) || ceiling == 65535) = true →
            t.budget.waits.head?.any (fun e => t.budget.fits e.kw) = false) ∧
          (s.budget.ceiling.any (fun old => decide (old < ceiling) || ceiling == 65535) = false → t.budget = u ∧
            t.slots = s.slots ∧ t.blowers = s.blowers ∧ t.trains = s.trains)) ∧
        -- still exceeded in SHEDDING
        (s.budget.shedding = true → u.over = true → t.budget = { u with
            shedTimer := if mode = 1 then some (s.budget.shedTimer.getD delay) else none } ∧
          t.plant = s.plant ∧ t.slots = s.slots ∧ t.blowers = s.blowers ∧ t.trains = s.trains ∧
          t.alarm = s.alarm ∧ t.notices = s.notices) ∧
        -- exceeded in NORMAL: the pumps' waits withdrawn, the RUNNING pumps capped
        (s.budget.shedding = false → u.over = true → ∀ capped : Budget,
          capped = { u with commits := s.budget.commits.map (fun e => match e.holder with
            | .pump k => if (s.train k).state = .running ∧ (s.train k).speed ≠ (s.train k).minSpeed then
                { e with kw := ((s.train k).config.map (fun c => pumpKw c (s.train k).minSpeed)).getD e.kw } else e
            | .blower _ => e) } →
          t.budget.shedding = capped.over ∧ (t.entry sheddingEntry).condition = capped.over ∧
          t.plant.pumpCap = capped.over ∧
          (∃ n ∈ t.notices, n.source = .budget ∧ n.causes &&& 1#8 = 1#8) ∧
          (capped.over = true → t.budget.commits = capped.commits ∧ t.blowers = s.blowers ∧
            t.budget.waits = s.budget.waits.filter (fun e => match e.holder with
              | .pump _ => false
              | .blower _ => true) ∧
            t.budget.shedTimer = (if mode = 1 then some delay else s.budget.shedTimer)) ∧
          (∀ k c, (s.train k).config = some c →
            ((s.train k).state = .starting .waitPower → (s.budget.waitOf (.pump k)).isSome = true → capped.over = true →
              t.train k = { s.train k with power := .none, withdrawn := true }) ∧
            ((s.train k).state = .running → (t.train k).speed = (s.train k).minSpeed ∧
              ((s.budget.waitOf (.pump k)).isSome = true →
                (t.train k).increaseTarget = none ∧ (t.train k).increaseWait = 0) ∧
              (s.SlotsClaimed → (s.train k).speed ≠ (s.train k).minSpeed → t.drivesPump c 1 (s.train k).minSpeed) ∧
              (capped.over = true → (t.entry (rasLimitedEntry k)).condition = true)))) ∧
        -- the return to NORMAL: the cap lifted, the withdrawn starts presented again, serving
        (s.budget.shedding = true ∨ u.over = true → t.budget.shedding = false →
          t.budget.shedTimer = none ∧ t.plant.pumpCap = false ∧ (t.entry sheddingEntry).condition = false ∧
          (∃ n ∈ t.notices, n.source = .budget ∧ n.causes &&& 2#8 = 2#8) ∧
          (∀ k c, (s.train k).config = some c → (s.train k).state = .starting .waitPower →
            (s.train k).withdrawn = true ∨ (s.budget.shedding = false ∧ (s.budget.waitOf (.pump k)).isSome = true) →
            (t.train k).withdrawn = false ∧ (t.train k).startSpeed = (s.train k).minSpeed ∧
            (((t.train k).state = .starting .waitPower ∧ (t.train k).power = .waiting) ∨
              ((t.train k).state = .starting .runConfirm ∧ (t.train k).power = .pump))) ∧
          (∀ k, (s.train k).state = .running → (s.train k).increaseTarget = none →
            (t.entry (rasLimitedEntry k)).condition = false) ∧
          t.budget.waits.head?.any (fun e => t.budget.fits e.kw) = false) ∧
        (s.budget.shedding = true → u.over = false → t.budget.shedding = false)) ∧
      t.reply = taken 0x30 [optU16 t.budget.ceiling, flag t.budget.hard, .u16 t.budget.shedDelay,
        flag t.budget.shedding, .u16 t.budget.committed] ∧
      t.lanes = s.lanes ∧ t.online = s.online ∧ OnlyPower s t)

/-- POWER_ADMISSION (R72, R97 to R99, R114, R120): in NORMAL the head of the queue is admitted when it fits, leaves the
queue and has its commitment, and serving goes on with the next. A new entry's place in a queue ordered by class is after
every entry of the same or a lower class and before every higher one (R98). -/
def Obligations.PowerAdmissionServesTheHead : Prop :=
  (∀ (e : PowerEntry) (waits : List PowerEntry), waits.Pairwise (fun x y => x.cls ≤ y.cls) →
    placePower e waits = waits.filter (fun x => decide (x.cls ≤ e.cls)) ++
      e :: waits.filter (fun x => decide (e.cls < x.cls))) ∧
  ∀ s : State, s.held = false → s.LinesFollow →
    (s.budget.waits = [] ∨ s.budget.shedding = true → Runs .powerAdmission s s) ∧
    (∀ e rest, s.budget.waits = e :: rest → s.budget.fits e.kw = false → Runs .powerAdmission s s) ∧
    (∀ e rest, s.budget.waits = e :: rest → s.budget.shedding = false → s.budget.fits e.kw = true →
      ∃ u : State, Runs .powerAdmission s (finish s u.servePower) ∧ OnlyPower s (finish s u.servePower) ∧
        u.servePower.budget.ceiling = s.budget.ceiling ∧ u.budget.waits = rest ∧
        (∀ b, e.holder = .blower b →
          u.budget = { s.budget with waits := rest, commits := s.budget.commits ++ [⟨.blower b, .start, e.kw, s.uptime⟩] } ∧
          (∀ origin copy, (s.blower b).state = .starting .waitPower origin copy →
            u.blower b = { s.blower b with state := .starting .blowoffOpen origin copy, power := .start,
                                           stepTimer := some (50 * copy.blowoffTime) } ∧
            (u.servePower.blower b).state = .starting .blowoffOpen origin copy ∧
            (u.servePower.entry (startDeferredEntry b)).condition = false)) ∧
        (∀ k, e.holder = .pump k →
          (s.budget.commitOf e.holder = none →
            u.budget = { s.budget with waits := rest, commits := s.budget.commits ++ [⟨.pump k, .pump, e.kw, s.uptime⟩] }) ∧
          (∀ held, s.budget.commitOf e.holder = some held → u.budget = { s.budget with
            waits := rest,
            commits := s.budget.commits.map (fun x => if x.holder = .pump k then { x with kw := x.kw + e.kw } else x) }) ∧
          (∀ c, (s.train k).config = some c → (s.train k).state = .starting .waitPower →
            u.train k = { s.train k with state := .starting .runConfirm, power := .pump, speed := (s.train k).startSpeed,
                                         stepTimer := some (50 * c.runConfirm) }) ∧
          (∀ c x, (s.train k).config = some c → (s.train k).state = .running → (s.train k).increaseTarget = some x →
            u.train k = { s.train k with speed := x, increaseTarget := none, increaseWait := 0 } ∧
            (∀ q : SlotId, q.val = c.speedSlot → c.runSlot ≠ c.speedSlot → (u.slot q).value = x ∧
              (u.slot q).valid = true))))

/-- Every step keeps the power budget's records in order (R97, R98, R100, R102, R103, R118): at most one commitment and one
waiting entry a holder, each agreeing with its holder's state and speed, in NORMAL the commitments within the ceiling, and the
pump cap SET exactly in SHEDDING. -/
def Obligations.EveryStepKeepsThePowerInOrder : Prop :=
  ∀ s t : State, s.PowerInOrder → step s = .next t → t.PowerInOrder

/-- Every step keeps the output slots in order (R1, R5, R6, R18, R22, R24, R35, R69, R90, R112, R174): each slot that a
configured lane, blower or pump names is claimed by it, a blower's run, speed and blow-off slots and a pump's run and speed
slots carry what its state gives, in UNLOADING a valid speed, and a lane's valve slot what its mode gives, a lane being
UNCONFIGURED exactly while it has no configuration. A retry under way at the entry to HOLD leaves the slot alone (assumption
log 23); the min speed in RUN_CONFIRM is the one the start was presented with (log 31). -/
def Obligations.EveryStepKeepsTheOutputs : Prop :=
  ∀ s t : State, s.OutputsFollow → step s = .next t → t.OutputsFollow

/-! ### Flow pacing (chapter 6) -/

/-- TRAIN_SET (R111, R112, and R122 for a train without a blanket point): its refusals in their order, and what a taken one
leaves. That the first one's pacing fields are in force at once is the model's (assumption log 31), and so is that a change
of one slot releases and claims both (log 33). -/
def Obligations.TrainSetTaken : Prop :=
  ∀ (s : State) (len : Nat) (k : TrainId) (f : TrainFields), s.Hears → lengthFor len (.u8 k :: f.wire) = true →
    1 ≤ f.lanes.length → f.lanes.length ≤ 4 →
    (f.inRange = false ∨ lanesTaken s k f = true → Refuses (.trainSet len k f) s 0x38 .range) ∧
    (f.inRange = true → lanesTaken s k f = false → (∃ g, (s.train k).config = some g ∧ f.sameStructure g = false) →
      (s.train k).state.takesStructure = false → Refuses (.trainSet len k f) s 0x38 .state) ∧
    (f.inRange = true → lanesTaken s k f = false →
      ((s.train k).config.all f.sameStructure = true ∨ (s.train k).state.takesStructure = true) →
      (s.pointAt f.runPoint).kind = .analog ∨ (s.pointAt f.influentPoint).kind = .discrete ∨
        (s.pointAt f.rasFlowPoint).kind = .discrete ∨ (∃ p ∈ f.blanketPoint, (s.pointAt p).kind = .discrete) ∨
        (∃ x ∈ pumpSlots k f, s.slotFree x.1 x.2 = false) → Refuses (.trainSet len k f) s 0x38 .conflict) ∧
    (f.inRange = true → lanesTaken s k f = false →
      ((s.train k).config.all f.sameStructure = true ∨ (s.train k).state.takesStructure = true) →
      (s.pointAt f.runPoint).kind ≠ .analog → (s.pointAt f.influentPoint).kind ≠ .discrete →
      (s.pointAt f.rasFlowPoint).kind ≠ .discrete → (∀ p, f.blanketPoint = some p → (s.pointAt p).kind ≠ .discrete) →
      (∀ x ∈ pumpSlots k f, s.slotFree x.1 x.2 = true) → ∃ t, Runs (.trainSet len k f) s t ∧
        (t.train k).config = some f ∧
        ((s.train k).state = .unconfigured → (t.train k).state = .adopting ∧
          (t.train k).timer = some f.pacingPeriod ∧ t.alarm.trainFlags[k] = false ∧ (t.train k).minSpeed = f.minSpeed ∧
          (t.train k).limitedDelay = f.limitedDelay) ∧
        ((s.train k).state ≠ .unconfigured → (t.train k).state = (s.train k).state ∧
          (t.train k).timer = (s.train k).timer ∧ (t.train k).minSpeed = (s.train k).minSpeed ∧
          (t.train k).limitedDelay = (s.train k).limitedDelay) ∧ (t.train k).startSpeed = (s.train k).startSpeed ∧
        ((s.train k).config.map (pumpSlots k) ≠ some (pumpSlots k f) → ∀ x ∈ pumpSlots k f, ∀ q : SlotId, q.val = x.1 →
          (t.slot q).claimant = x.2) ∧
        (∀ g, (s.train k).config = some g → pumpSlots k g ≠ pumpSlots k f → ∀ q : SlotId,
          (∃ x ∈ pumpSlots k g, q.val = x.1) → (∀ x ∈ pumpSlots k f, q.val ≠ x.1) →
          (t.slot q).claimant = .none ∧ (t.slot q).value = 0 ∧ (t.slot q).valid = false) ∧
        (f.blanketPoint = none → (t.train k).boost = false ∧ (t.train k).blanketRun = 0) ∧
        (∀ x, x ≠ k → t.train x = s.train x) ∧ t.budget = s.budget ∧ OnlyPower s t)

/-- PUMP_COMMAND in its five forms (R113 to R115, R133, and R121 for RAS_LIMITED at a stop), with the run and speed outputs
(R112) and the request of a start with its outcome (R98, R114). That a start runs through with the min speed it was presented
with is the model's (assumption log 31). -/
def Obligations.PumpCommands : Prop :=
  ∀ (s : State) (k : TrainId), s.Hears →
    ((s.train k).state = .unconfigured → Refuses (.pumpStart 3 k) s 0x39 .unconfigured ∧
      Refuses (.pumpStop 3 k) s 0x39 .unconfigured ∧ Refuses (.pumpReset 3 k) s 0x39 .unconfigured ∧
      Refuses (.pumpLockout 3 k) s 0x39 .unconfigured ∧ Refuses (.pumpUnlock 3 k) s 0x39 .unconfigured) ∧
    (∀ c, (s.train k).config = some c →
    ((s.train k).state = .off → ∃ t, Runs (.pumpStart 3 k) s t ∧
      ((t.train k).state = .starting .waitPower ∨ (t.train k).state = .starting .runConfirm) ∧
      (t.train k).startSpeed = (s.train k).minSpeed ∧
      ((t.train k).state = .starting .runConfirm → (t.train k).speed = (s.train k).minSpeed) ∧
      (∀ kw : Nat, kw = pumpKw c (s.train k).minSpeed → 0 < kw → s.budget.waitOf (.pump k) = none →
        s.budget.commitOf (.pump k) = none →
        (s.budget.shedding = false → s.budget.waits = [] → s.budget.fits kw = true →
          (t.train k).state = .starting .runConfirm ∧ (t.train k).power = .pump ∧
          (t.train k).stepTimer = some (50 * c.runConfirm) ∧
          t.budget = { s.budget with commits := s.budget.commits ++ [⟨.pump k, .pump, kw, s.uptime⟩] }) ∧
        (s.budget.shedding = true ∨ s.budget.waits ≠ [] ∨ s.budget.fits kw = false →
          (t.train k).state = .starting .waitPower ∧ (t.train k).power = .waiting ∧
          t.budget = { s.budget with waits := placePower ⟨.pump k, 2, kw, s.uptime⟩ s.budget.waits })) ∧
      (s.SlotsClaimed → ((t.train k).state = .starting .waitPower → t.drivesPump c 0 0) ∧
        ((t.train k).state = .starting .runConfirm → t.drivesPump c 1 (s.train k).minSpeed)) ∧ t.reply = taken 0x39 [.u8 3] ∧ OnlyPower s t) ∧
    ((s.train k).state ≠ .off → (s.train k).state ≠ .unconfigured → Refuses (.pumpStart 3 k) s 0x39 .state) ∧
    ((s.train k).state = .adopting → Refuses (.pumpStop 3 k) s 0x39 .state) ∧
    ((s.train k).state = .off ∨ (s.train k).state = .tripped ∨ (s.train k).state = .lockedOut →
      Answers (.pumpStop 3 k) s s 0x39 [.u8 (s.train k).state.code]) ∧
    ((s.train k).state = .running ∨ (∃ step, (s.train k).state = .starting step) → ∃ t, Runs (.pumpStop 3 k) s t ∧
      (t.train k).state = .off ∧ (t.train k).power = .none ∧ (t.train k).speed = 0 ∧ (t.train k).withdrawn = false ∧
      (t.train k).foundRunning = 0 ∧ (t.train k).increaseTarget = none ∧
      ((s.train k).state ≠ .starting .runConfirm → t.budget.waitOf (.pump k) = none) ∧
      ((s.train k).state = .running → t.budget.commitOf (.pump k) = none) ∧
      ((s.train k).state = .starting .runConfirm → s.budget.waitOf (.pump k) = none →
        t.budget.commitOf (.pump k) = none) ∧
      (s.SlotsClaimed → t.drivesPump c 0 0) ∧
      (t.entry (rasLimitedEntry k)).condition = false ∧ t.reply = taken 0x39 [.u8 2] ∧ OnlyPower s t) ∧
    ((s.train k).state = .tripped → ∃ t, Runs (.pumpReset 3 k) s t ∧ (t.train k).state = .off ∧
      (s.SlotsClaimed → t.drivesPump c 0 0) ∧
      (t.entry (rasTripEntry k)).condition = false ∧ t.reply = taken 0x39 [.u8 2] ∧ OnlyPower s t ∧
      t.budget = s.budget) ∧
    ((s.train k).state ≠ .tripped → (s.train k).state ≠ .unconfigured → Refuses (.pumpReset 3 k) s 0x39 .state) ∧
    ((s.train k).state = .off ∨ (s.train k).state = .tripped → ∃ t, Runs (.pumpLockout 3 k) s t ∧
      (t.train k).state = .lockedOut ∧ (s.SlotsClaimed → t.drivesPump c 0 0) ∧ (∀ e ∈ trainEntries k, (t.entry e).condition = false) ∧
      t.alarm.trainFlags[k] = true ∧ t.reply = taken 0x39 [.u8 6] ∧ OnlyPower s t ∧ t.budget = s.budget) ∧
    ((s.train k).state ≠ .off → (s.train k).state ≠ .tripped → (s.train k).state ≠ .unconfigured →
      Refuses (.pumpLockout 3 k) s 0x39 .state) ∧
    ((s.train k).state = .lockedOut → ∃ t, Runs (.pumpUnlock 3 k) s t ∧ (t.train k).state = .off ∧
      (s.SlotsClaimed → t.drivesPump c 0 0) ∧ t.alarm.trainFlags[k] = false ∧ t.reply = taken 0x39 [.u8 2] ∧ OnlyPower s t ∧ t.budget = s.budget) ∧
    ((s.train k).state ≠ .lockedOut → (s.train k).state ≠ .unconfigured → Refuses (.pumpUnlock 3 k) s 0x39 .state))

/-- The pacing period (R111, R112, R119, R120, R122): the timer restarted and the pacing fields taken into force; in every
pump state the blanket evaluated, a boost that becomes ACTIVE counting in the same period; then a RUNNING pump's RAS
setpoint, and with the RAS flow GOOD its speed target: below the speed a decrease, at it a withdrawal, above it an increase
presented, admitted in the event, or replaced. Under the cap no increase is posted (R118): a pump that a min speed raised
since leaves below its target keeps its speed, which is the model's (assumption log 31). -/
def Obligations.PacingPeriodPaces : Prop :=
  ∀ (s : State) (k : TrainId) (c : TrainFields), s.held = false → (s.train k).config = some c → ∃ t,
    Runs (.pacingPeriod k) s t ∧ (t.train k).timer = some c.pacingPeriod ∧ (t.train k).state = (s.train k).state ∧
    (t.train k).limitedDelay = c.limitedDelay ∧ (t.train k).minSpeed = c.minSpeed ∧
    (t.train k).startSpeed = (s.train k).startSpeed ∧
    -- the blanket
    (c.blanketPoint.bind s.goodValue = none → (t.train k).blanketRun = (s.train k).blanketRun ∧
      (t.train k).boost = (s.train k).boost) ∧
    (∀ v, c.blanketPoint.bind s.goodValue = some v →
      (t.train k).blanketRun = (if (c.blanketHigh : Int) < v then heldAdd 3 (s.train k).blanketRun else 0) ∧
      ((s.train k).boost = false → (t.train k).boost = decide ((t.train k).blanketRun = 3)) ∧
      ((s.train k).boost = true → (t.train k).boost = decide ((c.blanketHigh : Int) - c.blanketHysteresis ≤ v))) ∧
    ((t.entry (blanketHighEntry k)).condition = (if (t.train k).boost = (s.train k).boost then
      (s.entry (blanketHighEntry k)).condition else (t.train k).boost)) ∧
    -- the setpoint
    (∀ setpoint : Option Nat, setpoint = (if lanesIdle s c then some c.rasMin
        else match s.goodValue c.influentPoint with
          | some v => some (clampNat c.rasMin c.rasMax (roundDiv
              (((if s.plant.storm then c.stormRatio else c.normalRatio) +
                (if (t.train k).boost then c.blanketBoost else 0) : Nat) * v) 100))
          | none => (s.train k).rasSetpoint) →
      (t.train k).rasSetpoint = (if (s.train k).state = .running then setpoint else (s.train k).rasSetpoint) ∧
      ((s.train k).state ≠ .running ∨ setpoint = none ∨ s.goodValue c.rasFlowPoint = none →
        (t.train k).speed = (s.train k).speed ∧ (t.train k).increaseTarget = (s.train k).increaseTarget ∧
        (t.train k).increaseWait = (s.train k).increaseWait ∧ t.budget = s.budget ∧ t.slots = s.slots) ∧
      -- the speed
      (∀ ras flow, (s.train k).state = .running → setpoint = some ras → s.goodValue c.rasFlowPoint = some flow →
        ∀ target : Nat, target = (if s.plant.pumpCap then c.minSpeed else clampNat c.minSpeed c.maxSpeed
          (roundDiv (((s.train k).speed : Int) * 100 + c.speedGain * ((ras : Int) - flow)) 100)) →
        (target ≤ (s.train k).speed → (t.train k).speed = target ∧ (t.train k).increaseTarget = none ∧
          (t.train k).increaseWait = 0 ∧ t.budget.waitOf (.pump k) = none) ∧
        (target < (s.train k).speed → ∀ held, s.budget.commitOf (.pump k) = some held →
          t.budget.commitOf (.pump k) = some { held with kw := pumpKw c target } ∧
          (s.budget.waits = [] → s.budget.shedding = false → ∀ q : SlotId, q.val = c.speedSlot →
            (t.slot q).value = target ∧ (t.slot q).valid = true)) ∧
        (target = (s.train k).speed → s.budget.waitOf (.pump k) = none → t.budget = s.budget ∧ t.slots = s.slots) ∧
        ((s.train k).speed < target → s.plant.pumpCap = true → (t.train k).speed = (s.train k).speed ∧
          (t.train k).increaseTarget = (s.train k).increaseTarget ∧
          (t.train k).increaseWait = (s.train k).increaseWait ∧ t.budget = s.budget ∧ t.slots = s.slots) ∧
        ((s.train k).speed < target → s.plant.pumpCap = false → ∀ amount : Nat,
          amount = pumpKw c target - ((s.budget.commitOf (.pump k)).map (·.kw)).getD 0 →
          -- an amount of 0 kW is a withdrawal (R98)
          (amount = 0 → (t.train k).speed = (s.train k).speed ∧ (t.train k).increaseTarget = none ∧
            t.budget.waitOf (.pump k) = none) ∧
          (0 < amount → s.budget.waitOf (.pump k) = none →
            (s.budget.shedding = false → s.budget.waits = [] → s.budget.fits amount = true →
              (t.train k).speed = target ∧ (t.train k).increaseTarget = none ∧ (t.train k).increaseWait = 0 ∧
              t.budget.waits = [] ∧ (∀ q : SlotId, q.val = c.speedSlot →
                (t.slot q).value = target ∧ (t.slot q).valid = true) ∧
              (∀ held, s.budget.commitOf (.pump k) = some held →
                t.budget.commitOf (.pump k) = some { held with kw := held.kw + amount })) ∧
            (s.budget.shedding = true ∨ s.budget.waits ≠ [] ∨ s.budget.fits amount = false →
              (t.train k).speed = (s.train k).speed ∧ (t.train k).increaseTarget = some target ∧
              ((s.train k).increaseTarget = none → (t.train k).increaseWait = 0) ∧ t.slots = s.slots ∧
              t.budget = { s.budget with waits := placePower ⟨.pump k, 2, amount, s.uptime⟩ s.budget.waits })) ∧
          (∀ old, 0 < amount → s.budget.waitOf (.pump k) = some old → ∀ waits : List PowerEntry,
            waits = s.budget.waits.map (fun e => if e.holder = .pump k then { e with kw := amount } else e) →
            (s.budget.isHead (.pump k) = false ∨ old.kw ≤ amount ∨ s.budget.shedding = true ∨
                s.budget.fits amount = false →
              (t.train k).speed = (s.train k).speed ∧ (t.train k).increaseTarget = some target ∧
              ((s.train k).increaseTarget.isSome = true → (t.train k).increaseWait = (s.train k).increaseWait) ∧
              t.budget = { s.budget with waits := waits } ∧ t.slots = s.slots) ∧
            (s.budget.isHead (.pump k) = true → amount < old.kw → s.budget.shedding = false →
              s.budget.fits amount = true → (t.train k).speed = target ∧ (t.train k).increaseTarget = none ∧
              (t.train k).increaseWait = 0))))) ∧
    t.lanes = s.lanes ∧ t.online = s.online ∧ OnlyPower s t

/-- The pump's other events (R114, R117, R121, R122), with the run and speed outputs (R112) and the min speed and the limited
delay in force (R111, assumption log 31). -/
def Obligations.PumpEvents : Prop :=
  ∀ (s : State) (k : TrainId) (c : TrainFields), s.held = false → (s.train k).config = some c →
    (c.blanketPoint.isSome → (s.train k).boost = false → ∃ t, Runs (.blanketBoostOn k) s t ∧ (t.train k).boost = true ∧
      (t.train k).blanketRun = 3 ∧ (t.entry (blanketHighEntry k)).condition = true ∧ OnlyPower s t ∧
      t.budget = s.budget) ∧
    ((s.train k).state = .starting .runConfirm → ∃ t, Runs (.pumpRunConfirmTimeout k) s t ∧
      (t.train k).state = .tripped ∧ (t.train k).power = .none ∧ (t.train k).speed = 0 ∧
      (s.budget.waitOf (.pump k) = none → t.budget.commitOf (.pump k) = none) ∧
      (s.SlotsClaimed → t.drivesPump c 0 0) ∧ (t.entry (rasTripEntry k)).condition = true ∧ OnlyPower s t) ∧
    ((s.train k).state = .off → ∃ t, Runs (.pumpFoundRunning k) s t ∧ (t.train k).state = .running ∧
      (t.train k).speed = (s.train k).minSpeed ∧ (t.train k).power = .pump ∧
      (s.SlotsClaimed → t.drivesPump c 1 (s.train k).minSpeed) ∧ OnlyPower s t) ∧
    ((s.train k).state = .running → (s.train k).increaseTarget.isSome → ∃ t, Runs (.rasLimited k) s t ∧
      (t.entry (rasLimitedEntry k)).condition = true ∧ (t.train k).speed = (s.train k).speed ∧ t.slots = s.slots ∧
      OnlyPower s t ∧
      t.budget = s.budget)

/-- What a judgment of a hub does at a pump whose running point is on it (R114, R116, R117): the test of the sample, absent
while the point is not GOOD; then one frame of a RUN_CONFIRM that stood before the judgment, whose end is that of
PUMP_RUN_CONFIRM_TIMEOUT; with the run and speed outputs (R112). A pump admitted in the judgment itself is tested at once
(assumption log 33). A pump found running runs at the min speed in force, and so does one that enters RUNNING under the cap
(R111, R118, section 6.1, log 31). -/
def Obligations.PumpFrameUpdates : Prop :=
  ∀ (s : State) (k : TrainId) (c : TrainFields), (s.train k).config = some c →
    (∀ (h : HubId) (before : State), (onHub h c.runPoint = false → State.pumpFrame h before k s = s) ∧
      (onHub h c.runPoint = true → ∃ u, u = s.testPump k ((s.goodValue c.runPoint).map (· != 0)) ∧
        ((before.train k).state ≠ .starting .runConfirm ∨ (u.train k).state ≠ .starting .runConfirm →
          State.pumpFrame h before k s = u) ∧
        ((before.train k).state = .starting .runConfirm → (u.train k).state = .starting .runConfirm →
          (∀ n, (u.train k).stepTimer = some (n + 2) → State.pumpFrame h before k s =
            u.setTrain k { u.train k with stepTimer := some (n + 1) }) ∧
          ((u.train k).stepTimer.any (fun n => decide (n ≤ 1)) = true → u.held = false →
            Runs (.pumpRunConfirmTimeout k) u (finish u (State.pumpFrame h before k s)))))) ∧
    (∀ sample : Option Bool, ∃ t, t = s.testPump k sample ∧
      (((s.train k).state = .adopting ∧ sample = some true) ∨
        ((s.train k).state = .off ∧ sample = some true ∧ 4 ≤ (s.train k).foundRunning) →
        (t.train k).state = .running ∧ (t.train k).speed = (s.train k).minSpeed ∧ (t.train k).power = .pump ∧
        (s.SlotsClaimed → t.drivesPump c 1 (s.train k).minSpeed) ∧
        (t.budget.commitOf (.pump k)).isSome = true ∧ OnlyPower s t) ∧
      ((s.train k).state = .adopting → sample = some false → (t.train k).state = .off ∧ (t.train k).power = .none ∧
        (t.train k).speed = 0 ∧ (t.train k).foundRunning = 0 ∧ (s.SlotsClaimed → t.drivesPump c 0 0) ∧
        t.budget = s.budget ∧ OnlyPower s t) ∧
      ((s.train k).state = .off → sample = some true → (s.train k).foundRunning < 4 →
        t = s.setTrain k { s.train k with foundRunning := (s.train k).foundRunning + 1 }) ∧
      ((s.train k).state = .off → sample ≠ some true → t = s.setTrain k { s.train k with foundRunning := 0 }) ∧
      ((s.train k).state = .starting .runConfirm → sample = some true → (t.train k).state = .running ∧
        (t.train k).speed = (if s.plant.pumpCap then (s.train k).minSpeed else (s.train k).speed) ∧
        (t.train k).stepTimer = none ∧ (s.SlotsClaimed → t.drivesPump c 1 (t.train k).speed) ∧
        (s.plant.pumpCap = false ∨ (s.train k).speed = (s.train k).minSpeed → t.budget = s.budget) ∧
        (s.plant.pumpCap = true → (s.train k).speed ≠ (s.train k).minSpeed → s.budget.waitOf (.pump k) = none →
          ∀ held, s.budget.commitOf (.pump k) = some held →
            t.budget.commitOf (.pump k) = some { held with kw := pumpKw c (s.train k).minSpeed }) ∧ OnlyPower s t) ∧
      ((s.train k).state = .running → sample = some false → (t.train k).state = .tripped ∧
        (t.train k).power = .none ∧ (t.train k).speed = 0 ∧ (t.train k).increaseTarget = none ∧
        t.budget.commitOf (.pump k) = none ∧ t.budget.waitOf (.pump k) = none ∧
        (t.entry (rasTripEntry k)).condition = true ∧ (t.entry (rasLimitedEntry k)).condition = false ∧
        (s.SlotsClaimed → t.drivesPump c 0 0) ∧ OnlyPower s t) ∧
      (((s.train k).state = .adopting ∧ sample = none) ∨
        ((s.train k).state = .starting .runConfirm ∧ sample ≠ some true) ∨
        ((s.train k).state = .running ∧ sample ≠ some false) ∨ (s.train k).state = .starting .waitPower ∨
        (s.train k).state = .tripped ∨ (s.train k).state = .lockedOut ∨ (s.train k).state = .unconfigured → t = s))

/-- STORM_SET and the evaluation (R123, R124). -/
def Obligations.StormSetAndEvaluation : Prop :=
  ∀ (s : State) (f : StormFields),
    (s.Hears →
      (f.inRange = false → Refuses (.stormSet 10 f) s 0x3A .range) ∧
      (f.inRange = true → (s.pointAt f.influentPoint).kind = .discrete → Refuses (.stormSet 10 f) s 0x3A .conflict) ∧
      (f.inRange = true → (s.pointAt f.influentPoint).kind ≠ .discrete →
        Answers (.stormSet 10 f) s { s with plant := { s.plant with
            config := some f, runCount := 0,
            timer := if s.plant.config = none then some f.evalPeriod else s.plant.timer } } 0x3A
          (f.wire ++ [.u8 (if s.plant.storm then 1 else 0), .u8 s.plant.force.code]))) ∧
    (s.held = false → s.LinesFollow → s.plant.config = some f →
      (s.plant.force ≠ .auto ∨ s.goodValue f.influentPoint = none →
        Runs .stormEvaluation s { s with plant := { s.plant with timer := some f.evalPeriod } }) ∧
      (∀ v, s.plant.force = .auto → s.goodValue f.influentPoint = some v →
        (s.plant.storm = false → v ≤ f.stormIn →
          Runs .stormEvaluation s { s with plant := { s.plant with timer := some f.evalPeriod, runCount := 0 } }) ∧
        (s.plant.storm = false → (f.stormIn : Int) < v → s.plant.runCount + 1 < f.inCount →
          Runs .stormEvaluation s { s with plant := { s.plant with
            timer := some f.evalPeriod, runCount := s.plant.runCount + 1 } }) ∧
        (s.plant.storm = false → (f.stormIn : Int) < v → f.inCount ≤ s.plant.runCount + 1 →
          ∃ t, Runs .stormEvaluation s t ∧ t.plant.storm = true ∧ t.plant.runCount = 0 ∧
            t.plant.timer = some f.evalPeriod) ∧
        (s.plant.storm = true → (f.stormOut : Int) ≤ v →
          Runs .stormEvaluation s { s with plant := { s.plant with timer := some f.evalPeriod, runCount := 0 } }) ∧
        (s.plant.storm = true → v < f.stormOut → s.plant.runCount + 1 < f.outCount →
          Runs .stormEvaluation s { s with plant := { s.plant with
            timer := some f.evalPeriod, runCount := s.plant.runCount + 1 } }) ∧
        (s.plant.storm = true → v < f.stormOut → f.outCount ≤ s.plant.runCount + 1 →
          ∃ t, Runs .stormEvaluation s t ∧ t.plant.storm = false ∧ t.plant.runCount = 0 ∧
            t.plant.timer = some f.evalPeriod)))

/-- STORM_FORCE, storm entry and storm exit (R10, R125, R126, R127), with the force and the reply that STORM_FORCE leaves,
and with the storm trigger (R155), which comes after the triggers of the alarms that the entry raises. -/
def Obligations.StormEntryAndExit : Prop :=
  ∀ (s : State) (c : Instr), s.Ready →
    (s.rx = [] → (∀ n, 2 < n → Refuses (.stormForce 2 n) s 0x3B .range) ∧
      Answers (.stormForce 2 0) s { s with plant := { s.plant with force := .auto, runCount := 0 } } 0x3B
      [.u8 0, .u8 (if s.plant.storm then 1 else 0)] ∧
    (s.plant.storm = true →
      Answers (.stormForce 2 1) s { s with plant := { s.plant with force := .storm, runCount := 0 } } 0x3B
        [.u8 1, .u8 1]) ∧
    (s.plant.storm = false →
      Answers (.stormForce 2 2) s { s with plant := { s.plant with force := .normal, runCount := 0 } } 0x3B
        [.u8 2, .u8 0])) ∧
    (s.plant.storm = false → (c = .stormForce 2 1 ∧ s.rx = []) ∨ (c = .stormEntry ∧ s.plant.force ≠ .normal) →
      ∃ t, Runs c s t ∧
      t.plant = { s.plant with storm := true, runCount := 0, force := t.plant.force } ∧
      (c = .stormForce 2 1 → t.plant.force = .storm ∧ t.reply = taken 0x3B [.u8 1, .u8 1]) ∧
      (c = .stormEntry → t.plant.force = s.plant.force ∧ t.reply = s.reply) ∧
      (t.entry stormEntryNo).condition = true ∧
      (∀ l f, (s.lane l).mode = .parked → (s.lane l).config = some f → f.wakeOnStorm = 1 → (s.lane l).curve ≠ [] →
        ((t.lane l).mode = .adopting .auto ∨ (t.lane l).mode = .auto) ∧ (t.lane l).woken = true) ∧
      (∀ l, (s.lane l).mode = .outOfService → t.lane l = s.lane l) ∧
      (∀ k, (s.channel k).fields.matchMask = 0 →
        ((s.channel k).fields.stormTrigger = 1 → TriggerTaken .storm s.uptime (s.channel k) (t.channel k)) ∧
        ((s.channel k).fields.stormTrigger ≠ 1 → t.channel k = s.channel k)) ∧
      (∀ k, (s.channel k).fields.stormTrigger = 1 → (s.channel k).state = .primed →
        (t.channel k).trigger.map (fun r => (r.uptime, r.actualPre)) = some (s.uptime, (s.channel k).ring.length)) ∧
      t.blowers = s.blowers ∧ t.trains = s.trains ∧ t.budget = s.budget ∧ OnlyControl s t) ∧
    (s.plant.storm = true → (c = .stormForce 2 2 ∧ s.rx = []) ∨ (c = .stormExit ∧ s.plant.force ≠ .storm) →
      ∃ t, Runs c s t ∧
      t.plant = { s.plant with storm := false, runCount := 0, force := t.plant.force } ∧
      (c = .stormForce 2 2 → t.plant.force = .normal ∧ t.reply = taken 0x3B [.u8 2, .u8 0]) ∧
      (c = .stormExit → t.plant.force = s.plant.force ∧ t.reply = s.reply) ∧
      (t.entry stormEntryNo).condition = false ∧
      (∀ l f, (s.lane l).woken = true → (s.lane l).config = some f → f.returnToPark = 1 →
        (t.lane l).mode = .parked ∧ (t.lane l).woken = false) ∧
      (∀ l, (s.lane l).woken = false → (s.lane l).mode.runs = true → t.lane l = s.lane l) ∧
      t.blowers = s.blowers ∧ t.trains = s.trains ∧ t.budget = s.budget ∧ OnlyControl s t)

/-! ### Alarms (chapter 7) -/

/-- ALARM_SET and ESCALATION_SET (R132, R145, R146), with the re-test of the escalation timers. -/
def Obligations.AlarmSettingsTaken : Prop :=
  ∀ s : State, s.Hears →
    (∀ (e : AlarmId) (p on off : Nat),
      (4 < p ∨ 600 < on ∨ 600 < off → Refuses (.alarmSet 7 e p on off) s 0x40 .range) ∧
      (p ≤ 4 → on ≤ 600 → off ≤ 600 → ∃ t, Runs (.alarmSet 7 e p on off) s t ∧ (t.entry e).priority = p ∧
        (t.entry e).onDelay = on ∧ (t.entry e).offDelay = off ∧
        (t.entry e).condition = (s.entry e).condition ∧
        (p = 0 → (t.entry e).state = .disabled ∧ (t.entry e).stage = 0 ∧ (t.entry e).onTimer = none ∧
          (t.entry e).clearTimer = none ∧ (t.entry e).shelf = none ∧ (t.entry e).escTimer = none ∧
          t.alarm.history = s.alarm.history) ∧
        (0 < p → (s.entry e).state = .disabled → s.alarm.flagOf e = true → (t.entry e).state = .suppressed) ∧
        (0 < p → (s.entry e).state = .disabled → s.alarm.flagOf e = false → (s.entry e).condition = false →
          (t.entry e).state = .normal) ∧
        (0 < p → (s.entry e).state = .disabled → s.alarm.flagOf e = false → (s.entry e).condition = true →
          (t.entry e).state = (if on = 0 then .activeUnack else .onDelay)) ∧
        (0 < p → (s.entry e).state ≠ .disabled → (t.entry e).state = (s.entry e).state ∧
          (t.entry e).stage = (s.entry e).stage ∧
          ((s.entry e).state ≠ .activeUnack ∨ p = (s.entry e).priority →
            (t.entry e).escTimer = (s.entry e).escTimer) ∧
          ((s.entry e).state = .activeUnack → p ≠ (s.entry e).priority →
            (s.alarm.escThreshold < p ∨ s.alarm.escThreshold = 0 → (t.entry e).escTimer = none) ∧
            (0 < s.alarm.escThreshold → p ≤ s.alarm.escThreshold →
              ((s.entry e).escTimer.isSome = true ∨ 2 ≤ (s.entry e).stage →
                (t.entry e).escTimer = (s.entry e).escTimer) ∧
              ((s.entry e).escTimer = none → (s.entry e).stage < 2 →
                (t.entry e).escTimer = some s.alarm.escTime)))) ∧
        (∀ e', e' ≠ e → t.entry e' = s.entry e') ∧
        t.reply = taken 0x40 [.u8 p, .u16 on, .u16 off, .u8 (t.entry e).state.code] ∧ OnlyAlarms s t)) ∧
    (∀ time threshold,
      (time < 60 ∨ 7200 < time ∨ 4 < threshold → Refuses (.escalationSet 4 time threshold) s 0x41 .range) ∧
      (60 ≤ time → time ≤ 7200 → threshold ≤ 4 → ∃ u : AlarmUnit,
        Answers (.escalationSet 4 time threshold) s { s with alarm := u } 0x41 [.u16 time, .u8 threshold] ∧
        u = { s.alarm with escTime := time, escThreshold := threshold, entries := u.entries } ∧
        (∀ e : AlarmId, ∃ timer, u.entries[e] = { s.entry e with escTimer := timer } ∧
          ((s.entry e).state ≠ .activeUnack → timer = (s.entry e).escTimer) ∧
          ((s.entry e).state = .activeUnack → threshold < (s.entry e).priority ∨ threshold = 0 → timer = none) ∧
          ((s.entry e).state = .activeUnack → 0 < threshold → (s.entry e).priority ≤ threshold →
            ((s.entry e).escTimer.isSome = true ∨ 2 ≤ (s.entry e).stage → timer = (s.entry e).escTimer) ∧
            ((s.entry e).escTimer = none → (s.entry e).stage < 2 → timer = some time)))))

/-- ALARM_ACK, ALARM_SHELVE and ALARM_UNSHELVE (R138, R139, R140); ALL works through the active list, its ACKED records
reaching the history in that order, of which what is over 128 is dropped from the front (R147), and replies with their number.
SILENCE (R143): the level becomes the most urgent
priority among the unacknowledged entries, or stays if it is more urgent; with none unacknowledged nothing changes. -/
def Obligations.AckShelveSilence : Prop :=
  (∀ (s : State) (e : AlarmId), s.Hears →
    ((s.entry e).state = .activeUnack ∨ (s.entry e).state = .clearedUnack → ∃ t, Runs (.alarmAck 2 e) s t ∧
      (t.entry e).state = (if (s.entry e).state = .activeUnack then .activeAck else .normal) ∧
      (t.entry e).stage = 0 ∧ (t.entry e).escTimer = none ∧
      Appends ⟨e, .acked, 0, s.uptime⟩ s t ∧ (∀ e', e' ≠ e → t.entry e' = s.entry e') ∧
      t.reply = taken 0x42 [.u8 (t.entry e).state.code] ∧ OnlyAlarms s t) ∧
    ((s.entry e).state ≠ .activeUnack → (s.entry e).state ≠ .clearedUnack →
      Refuses (.alarmAck 2 e) s 0x42 .state) ∧
    (∃ t, Runs (.alarmAck 2 255) s t ∧
      (∀ x, t.entry x = (match (s.entry x).state with
        | .activeUnack => { s.entry x with state := .activeAck, stage := 0, escTimer := none }
        | .clearedUnack => { s.entry x with state := .normal, stage := 0, escTimer := none }
        | _ => s.entry x)) ∧
      (∀ acked : List AlarmId,
        acked = s.alarm.activeList.filter
          (fun x => decide ((s.entry x).state = .activeUnack ∨ (s.entry x).state = .clearedUnack)) →
        ∀ dropped : Nat, dropped = acked.length - (128 - s.alarm.history.length) →
        t.alarm.history = (s.alarm.history ++ acked.map (fun x => (⟨x, .acked, 0, s.uptime⟩ : HistoryRecord))).drop dropped ∧
        t.alarm.wrapped = (s.alarm.wrapped || decide (0 < dropped)) ∧
        (0 < dropped → s.alarm.wrapped = false → ∃ n ∈ t.notices, n.source = .alarm ∧ n.causes &&& 4#8 = 4#8) ∧
        t.reply = taken 0x42 [.u8 acked.length]) ∧
      t.alarm.silenced = none ∧ t.channels = s.channels ∧ OnlyAlarms s t) ∧
    (∀ time, time = 0 ∨ 86400 < time → Refuses (.alarmShelve 6 e time) s 0x43 .range) ∧
    (∀ time, 1 ≤ time → time ≤ 86400 →
      ((s.entry e).state = .disabled ∨ (s.entry e).state = .suppressed → Refuses (.alarmShelve 6 e time) s 0x43 .state) ∧
      ((s.entry e).state ≠ .disabled → (s.entry e).state ≠ .suppressed → ∃ t, Runs (.alarmShelve 6 e time) s t ∧
        (t.entry e).state = .shelved ∧ (t.entry e).shelf = some time ∧ (t.entry e).onTimer = none ∧
        (t.entry e).clearTimer = none ∧ (t.entry e).stage = 0 ∧ (t.entry e).escTimer = none ∧
        Appends ⟨e, .shelved, 0, s.uptime⟩ s t ∧ (∀ e', e' ≠ e → t.entry e' = s.entry e') ∧
        t.reply = taken 0x43 [.u8 6, .u32 time] ∧ OnlyAlarms s t)) ∧
    ((s.entry e).state ≠ .shelved → Refuses (.alarmUnshelve 2 e) s 0x44 .state) ∧
    ((s.entry e).state = .shelved → ∃ t, Runs (.alarmUnshelve 2 e) s t ∧ (t.entry e).shelf = none ∧
      ((s.entry e).condition = true → Raises e (s.record e .unshelved) t) ∧
      ((s.entry e).condition = false → t.entry e = { s.entry e with state := .normal, shelf := none } ∧
        Appends ⟨e, .unshelved, (s.entry e).stage, s.uptime⟩ s t ∧ t.channels = s.channels) ∧
      (∀ e', e' ≠ e → t.entry e' = s.entry e') ∧ t.reply = taken 0x44 [.u8 (t.entry e).state.code] ∧ OnlyAlarms s t)) ∧
  (∀ s : State, s.Hears →
    ((∀ e, (s.entry e).state ≠ .activeUnack) → ∃ t, Runs (.silence 1) s t ∧ t = { s with reply := t.reply, rx := [] }) ∧
    (∀ e, (s.entry e).state = .activeUnack → (∀ e', (s.entry e').state = .activeUnack →
        (s.entry e).priority ≤ (s.entry e').priority) → ∃ t, Runs (.silence 1) s t ∧
      t.alarm.silenced = some (match s.alarm.silenced with
        | none => (s.entry e).priority
        | some n => min (s.entry e).priority n) ∧
      t.alarm.horn = false ∧ t.alarm.entries = s.alarm.entries ∧ t.alarm.beacon = s.alarm.beacon ∧
      t.reply = taken 0x45 [.u8 (t.alarm.silenced.getD 0), .u8 0] ∧ OnlyAlarms s t))

/-- HISTORY_READ (R148). -/
def Obligations.HistoryReadDrains : Prop :=
  ∀ (s : State) (count : Nat), s.Hears →
    (count = 0 ∨ 8 < count → Refuses (.historyRead 2 count) s 0x47 .range) ∧
    (1 ≤ count → count ≤ 8 →
      Answers (.historyRead 2 count) s
        { s with alarm := { s.alarm with history := s.alarm.history.drop count, wrapped := false } } 0x47
        (wireList ((s.alarm.history.take count).map HistoryRecord.wire) ++
          [.u8 (if s.alarm.wrapped then 1 else 0), .u8 (s.alarm.history.length - count)]))

/-- An entry's record, conditions, suppression and timers. A record in the alarm history (R147): at the end; where 128 are
held the oldest is dropped and the wrapped flag set, and HISTORY_WRAPPED is posted where the flag was clear. A posted
condition (R131, R134 to R137): one equal to the stored one changes nothing; one that differs is stored and acted on by the
entry's state. A suppression flag that changes (R133, R141) takes the object's entries into SUPPRESSED or out of it. The ends
of the entry's timers (R134 to R136, R140, R145). -/
def Obligations.AlarmEntriesFollowTheirConditions : Prop :=
  -- a record
  (∀ (s : State) (e : AlarmId) (tr : Transition), ∀ r : HistoryRecord, r = ⟨e, tr, (s.entry e).stage, s.uptime⟩ →
    (s.alarm.history.length < 128 →
      s.record e tr = { s with alarm := { s.alarm with history := s.alarm.history ++ [r] } }) ∧
    (128 ≤ s.alarm.history.length → s.record e tr = { s with
      alarm := { s.alarm with history := s.alarm.history.tail ++ [r], wrapped := true },
      notices := if s.alarm.wrapped then s.notices else postTo .alarm 4#8 s.uptime s.notices })) ∧
  -- a posted condition
  (∀ (s : State) (e : AlarmId) (v : Bool), ∀ r : Entry, r = { s.entry e with condition := v } →
    ((s.entry e).condition = v → s.post e v = s) ∧
    ((s.entry e).condition ≠ v →
      (r.state = .disabled ∨ r.state = .shelved ∨ r.state = .suppressed → s.post e v = s.setEntry e r) ∧
      (v = true →
        (r.state = .normal → 0 < r.onDelay →
          s.post e v = s.setEntry e { r with state := .onDelay, onTimer := some r.onDelay }) ∧
        ((r.state = .normal ∧ r.onDelay = 0) ∨ r.state = .clearedUnack → Raises e (s.setEntry e r) (s.post e v)) ∧
        (r.state = .activeUnack ∨ r.state = .activeAck → s.post e v = s.setEntry e { r with clearTimer := none })) ∧
      (v = false →
        (r.state = .normal ∨ r.state = .clearedUnack → s.post e v = s.setEntry e r) ∧
        (r.state = .onDelay → s.post e v = s.setEntry e { r with state := .normal, onTimer := none }) ∧
        (r.state = .activeUnack ∨ r.state = .activeAck → 0 < r.offDelay →
          s.post e v = s.setEntry e { r with clearTimer := some r.offDelay }) ∧
        (r.state = .activeUnack ∨ r.state = .activeAck → r.offDelay = 0 →
          Returns e (s.setEntry e r) (s.post e v))))) ∧
  -- a suppression flag
  (∀ (s : State) (v : Bool),
    (∀ l, (s.alarm.laneFlags[l] = v → s.suppressLane l v = s) ∧
      (s.alarm.laneFlags[l] ≠ v → FlagTaken (laneEntries l) v s (s.suppressLane l v) ∧
        (s.suppressLane l v).alarm.laneFlags = s.alarm.laneFlags.set l v)) ∧
    (∀ b, (s.alarm.blowerFlags[b] = v → s.suppressBlower b v = s) ∧
      (s.alarm.blowerFlags[b] ≠ v → FlagTaken (blowerEntries b) v s (s.suppressBlower b v) ∧
        (s.suppressBlower b v).alarm.blowerFlags = s.alarm.blowerFlags.set b v)) ∧
    (∀ k, (s.alarm.trainFlags[k] = v → s.suppressTrain k v = s) ∧
      (s.alarm.trainFlags[k] ≠ v → FlagTaken (trainEntries k) v s (s.suppressTrain k v) ∧
        (s.suppressTrain k v).alarm.trainFlags = s.alarm.trainFlags.set k v))) ∧
  -- the timers
  (∀ (s : State) (e : AlarmId), s.held = false →
    ((s.entry e).onTimer.isSome → (s.entry e).state = .onDelay → ∃ t, Runs (.onDelayEnd e) s t ∧ Raises e s t) ∧
    ((s.entry e).clearTimer.isSome → (s.entry e).state = .activeUnack ∨ (s.entry e).state = .activeAck →
      ∃ t, Runs (.clearingEnd e) s t ∧ Returns e s t) ∧
    ((s.entry e).state = .shelved → ∃ t, Runs (.shelfEnd e) s t ∧
      ((s.entry e).condition = true → Raises e (s.record e .unshelved) t) ∧
      ((s.entry e).condition = false → t.entry e = { s.entry e with state := .normal, shelf := none } ∧
        (∀ x, x ≠ e → t.entry x = s.entry x) ∧ Appends ⟨e, .unshelved, (s.entry e).stage, s.uptime⟩ s t ∧
        t.channels = s.channels ∧ OnlyAlarms s t)) ∧
    ((s.entry e).state = .activeUnack → (s.entry e).escTimer.isSome → (s.entry e).stage < 2 →
      ∃ t, Runs (.escalation e) s t ∧ t.entry e = { s.entry e with
          stage := (s.entry e).stage + 1, escTimer := if (s.entry e).stage = 0 then some s.alarm.escTime else none } ∧
        (∀ x, x ≠ e → t.entry x = s.entry x) ∧ Appends ⟨e, .escalated, (s.entry e).stage + 1, s.uptime⟩ s t ∧
        (∃ n ∈ t.notices, n.source = .alarm ∧ n.causes &&& 2#8 = 2#8) ∧
        t.alarm.beacon = .flashing ∧ ((s.entry e).stage = 1 → t.alarm.dialOut = true) ∧
        t.channels = s.channels ∧ OnlyAlarms s t))

/-! ### Capture (chapter 8) -/

/-- The capture requests (R153 to R155, R158), the trigger of an alarm raise by the channels' alarm match (R155), a sample and
the freeze, which takes the last sample (R154, R156). The reply
of CAPTURE_TRIGGER as a list is the model's (assumption log 17). -/
def Obligations.CaptureRequestsAndSamples : Prop :=
  (∀ (s : State) (k : ChannelId), s.Hears →
    (∀ f : CaptureFields,
      (f.inRange = false → Refuses (.captureSet 10 k f) s 0x50 .range) ∧
      (f.inRange = true → (s.channel k).state ≠ .idle → Refuses (.captureSet 10 k f) s 0x50 .state) ∧
      (f.inRange = true → (s.channel k).state = .idle →
        Answers (.captureSet 10 k f) s (s.setChannel k { s.channel k with configured := true, fields := f }) 0x50
          f.wire)) ∧
    ((s.channel k).configured = false → Refuses (.captureArm 2 k) s 0x51 .unconfigured) ∧
    ((s.channel k).configured = true →
      ((s.channel k).state ≠ .idle → Refuses (.captureArm 2 k) s 0x51 .state) ∧
      ((s.channel k).state = .idle → Answers (.captureArm 2 k) s (s.setChannel k { s.channel k with
        state := .primed, ring := [], intervalCount := 0, trigger := none, postRemaining := 0, missed := false }) 0x51
        [.u8 1])) ∧
    ((s.channel k).fields.hostTrigger = 1 → (s.channel k).state = .primed →
      Answers (.captureTrigger 2 k) s (s.setChannel k { s.channel k with
        state := .triggered, trigger := some ⟨.host, s.uptime, (s.channel k).ring.length⟩,
        postRemaining := 256 - (s.channel k).fields.preCount }) 0x52 [.u8 1, .u8 0]) ∧
    ((s.channel k).fields.hostTrigger = 1 → (s.channel k).state = .frozen →
      Answers (.captureTrigger 2 k) s (s.setChannel k { s.channel k with missed := true }) 0x52 [.u8 1, .u8 2]) ∧
    ((s.channel k).fields.hostTrigger = 1 → (s.channel k).state = .idle ∨ (s.channel k).state = .triggered →
      Answers (.captureTrigger 2 k) s s 0x52 [.u8 1, .u8 1]) ∧
    ((s.channel k).fields.hostTrigger ≠ 1 → Answers (.captureTrigger 2 k) s s 0x52 [.u8 1, .u8 3]) ∧
    (∃ t, Runs (.captureTrigger 2 255) s t ∧ t.channels = s.channels.map (fun c =>
      if c.fields.hostTrigger = 1 then c.triggered .host s.uptime else c)) ∧
    ((s.channel k).state = .idle → Refuses (.captureRelease 2 k) s 0x54 .state) ∧
    ((s.channel k).state ≠ .idle → Answers (.captureRelease 2 k) s (s.setChannel k { s.channel k with
      state := .idle, ring := [], intervalCount := 0, trigger := none, postRemaining := 0, missed := false }) 0x54
      [.u8 0])) ∧
  -- the alarm match at a raise
  (∀ (s : State) (e : AlarmId), s.held = false → (s.entry e).onTimer.isSome → (s.entry e).state = .onDelay →
    ∃ t, Runs (.onDelayEnd e) s t ∧ (t.entry e).state = .activeUnack ∧ AlarmTriggers e s t) ∧
  (∀ (s : State) (k : ChannelId), s.held = false → s.LinesFollow →
    ((s.channel k).state = .primed → Runs (.captureSample k) s (s.setChannel k { s.channel k with
      ring := newest (s.channel k).fields.preCount ((s.channel k).ring ++ [Channel.sampleNow s (s.channel k)]),
      intervalCount := 0 })) ∧
    ((s.channel k).state = .triggered → 1 < (s.channel k).postRemaining →
      Runs (.captureSample k) s (s.setChannel k { s.channel k with
        ring := (s.channel k).ring ++ [Channel.sampleNow s (s.channel k)], intervalCount := 0,
        postRemaining := (s.channel k).postRemaining - 1 })) ∧
    ((s.channel k).state = .triggered → (s.channel k).postRemaining = 1 → ∃ t, Runs (.captureSample k) s t ∧
      (t.channel k).state = .frozen ∧ (t.channel k).postRemaining = 0 ∧
      (t.channel k).ring = (s.channel k).ring ++ [Channel.sampleNow s (s.channel k)] ∧ t.attn = true ∧
      OnlyAlarms s t ∧ t.alarm = s.alarm) ∧
    ((s.channel k).state = .triggered → Runs (.captureFrozen k) s
      { (s.setChannel k { s.channel k with
          state := .frozen, ring := (s.channel k).ring ++ [Channel.sampleNow s (s.channel k)], intervalCount := 0,
          postRemaining := 0 }) with
        notices := postTo .capture Cause.frozen.mask s.uptime s.notices, attn := true }))

/-! ### Restart (R190) -/

/-- RESTART only sends its reply, and a request frame that completes before the warm restart is discarded (R190). The warm
restart applies every block's warm rule (R27, R45, R67, R96, R110, R130, R152, R159, R182, R190); the order between blocks
is the model's (assumption log 21), and so are what the rules leave unnamed: the lane's other fields stand (log 21) and the
pumps' pacing fields in force (log 31), a pump's speed is the one its slot carries (log 10), and a channel sent to IDLE has a
post remaining of 0 (log 17). -/
def Obligations.RestartAndWarmRestart : Prop :=
  (∀ s : State, s.Hears → Answers (.restart 1) s { s with restarting := true } 0x63 []) ∧
  (∀ (c : Instr) (f : RequestFrame) (s : State), c.frame? = some f → s.held = false →
    s.restarting = true → s.rx = [] → badLength f.len = false → Runs c s s) ∧
  (∀ s : State, s.held = false → s.restarting = true → ∃ t, Runs .warmRestart s t ∧
    -- what may change at all; uptime, frame count, speed, hubs, points, outbound frame and duty list stand
    t = { s with
      restarting := false, notices := [{ source := .host, causes := 2#8, posted := s.uptime }], attn := true,
      alarm := t.alarm, air := t.air, lanes := t.lanes, blowers := t.blowers, trains := t.trains, slots := t.slots,
      channels := t.channels, service := t.service, online := [],
      budget := { s.budget with shedding := false, commits := [], waits := [], shedTimer := none },
      header := { s.header with
        setpoint := (s.header.config.map (·.initialSetpoint)).getD s.header.setpoint, previousError := none,
        range := none, lastMov := none, timer := s.header.config.map (·.headerPeriod),
        movTimer := s.header.config.map (·.movPeriod) },
      plant := { s.plant with
        storm := decide (s.plant.force = .storm), runCount := 0, pumpCap := false,
        timer := s.plant.config.map (·.evalPeriod) } } ∧
    -- the slots: claimants stand, and each claimed slot carries what the state after the restart gives
    (∀ q, (t.slot q).claimant = (s.slot q).claimant) ∧
    (s.SlotsClaimed → (∀ l, ∀ c ∈ (t.lane l).config, t.laneDriven l c) ∧
      (∀ b, ∀ c ∈ (t.blower b).config, t.blowerDriven b c) ∧ (∀ k, ∀ c ∈ (t.train k).config, t.pumpDriven k c)) ∧
    -- the allocator, with the requests of min air of the lanes in ADOPTING
    t.air = { capacity := [], grants := Vector.replicate 12 0, holdMarks := Vector.replicate 12 false,
              queue := t.air.queue, freeze := .none, short := false, lastTimeout := none,
              shortfall := if t.air.queue = [] then none else some s.air.params.stageInDelay, surplus := none,
              params := s.air.params } ∧
    (∀ l, t.air.entryOf l = if (t.lane l).mode.isAdopting = true ∧ 0 < s.minAir l then
      some { lane := l, amount := s.minAir l, posted := s.uptime, starved := false } else none) ∧
    (t.air.queue.map (·.lane)).Nodup ∧
    (s.plant.force ≠ .storm → t.air.queue.Pairwise (fun x y => s.airPriority x.lane < s.airPriority y.lane ∨
      s.airPriority x.lane = s.airPriority y.lane ∧ x.lane < y.lane)) ∧
    -- the lanes, blowers and trains: every field, those not named standing
    (∀ l, t.lane l = { s.lane l with
      mode := (match (s.lane l).mode with
        | .auto => .adopting .auto
        | .manual => .adopting .manual
        | .hold ret => .adopting ret
        | m => if s.wokenByRestart l then .adopting .auto else m)
      woken := decide (s.wokenByRestart l), timer := none, periodNumber := 0,
      cascaded := ((s.lane l).config.map (·.doSetpoint)).getD (s.lane l).cascaded, previousError := 0, demand := 0,
      lastValveGrant := 0, stalled := false, mismatchRun := 0,
      load := { influent := none, ras := none, previous := none },
      sup := { (s.lane l).sup with moving := false, preGrant := none, retry := .none },
      cause := none, record := none }) ∧
    (∀ b, t.blower b = { s.blower b with
      state := (match (s.blower b).state with
        | .unconfigured => .unconfigured
        | .lockedOut => .lockedOut
        | .tripped => .tripped
        | .failed => if (s.blower b).power = .none then .failed else .adopting
        | _ => .adopting)
      power := .none, stepTimer := none, foundRunning := 0, blind := false,
      surge := { phase := .idle, lowFlow := 0, remaining := 0, threshold := 0 },
      result := (match (s.blower b).state with
        | .starting _ _ _ => (s.blower b).result.map (fun x => { x with outcome := .aborted })
        | _ => (s.blower b).result) }) ∧
    (∀ k, t.train k = { s.train k with
      state := (match (s.train k).state with
        | .unconfigured => .unconfigured
        | .lockedOut => .lockedOut
        | .tripped => .tripped
        | _ => .adopting)
      speed := (match (s.train k).state with
        | .lockedOut => 0
        | .tripped => 0
        | _ => (s.train k).speed)
      power := .none, stepTimer := none, withdrawn := false, increaseTarget := none, increaseWait := 0, foundRunning := 0,
      rasSetpoint := none, blanketRun := 0, boost := false, timer := (s.train k).config.map (·.pacingPeriod) }) ∧
    -- the capture channels and the service transaction
    (∀ k, ((s.channel k).state = .idle → t.channel k = s.channel k) ∧
      ((s.channel k).state = .primed ∨ (s.channel k).state = .triggered → t.channel k = { s.channel k with
        state := .idle, ring := [], intervalCount := 0, trigger := none, postRemaining := 0, missed := false }) ∧
      ((s.channel k).state = .frozen → t.channel k = { s.channel k with missed := (t.channel k).missed } ∧
        ((t.channel k).missed = true ↔ (s.channel k).missed = true ∨
          (s.plant.force = .storm ∧ (s.channel k).fields.stormTrigger = 1) ∨
          ∃ e, (t.entry e).state = .activeUnack ∧ (s.channel k).matchesEntry e = true))) ∧
    (s.service.state = .sent → t.service = { s.service with state := .done .restarted 65535, inFrame := false }) ∧
    (s.service.state ≠ .sent → t.service = s.service) ∧
    -- the alarm unit
    t.alarm.escTime = s.alarm.escTime ∧ t.alarm.escThreshold = s.alarm.escThreshold ∧ t.alarm.silenced = none ∧
    t.alarm.dialOut = false ∧ t.alarm.beacon ≠ .flashing ∧
    (∀ l : LaneId, t.alarm.laneFlags[l] = (s.alarm.laneFlags[l] && !decide (s.wokenByRestart l))) ∧
    t.alarm.blowerFlags = s.alarm.blowerFlags ∧
    t.alarm.trainFlags = s.alarm.trainFlags ∧
    (∀ e, (t.entry e).priority = (s.entry e).priority ∧ (t.entry e).onDelay = (s.entry e).onDelay ∧
      (t.entry e).offDelay = (s.entry e).offDelay ∧ (t.entry e).stage = 0 ∧ (t.entry e).shelf = none ∧
      (t.entry e).clearTimer = none ∧
      ((t.entry e).condition = false → (t.entry e).stamp = (s.entry e).stamp ∧ (t.entry e).raises = (s.entry e).raises ∧
        (t.entry e).onTimer = none ∧ (t.entry e).escTimer = none ∧
        (t.entry e).state = (if (s.entry e).state = .disabled then .disabled
          else if t.alarm.flagOf e then .suppressed else .normal))) ∧
    (∀ h, (t.entry (hubEntry h)).condition = (s.entry (hubEntry h)).condition) ∧
    (∀ l, ∀ e ∈ laneEntries l, (t.entry e).condition = false) ∧
    (∀ b, (t.entry (tripEntry b)).condition = decide ((t.blower b).state = .tripped) ∧
      (t.entry (startFailedEntry b)).condition = decide ((t.blower b).state = .failed) ∧
      (t.entry (surgeEntry b)).condition = false ∧ (t.entry (startDeferredEntry b)).condition = false) ∧
    (∀ k, (t.entry (rasTripEntry k)).condition = decide ((t.train k).state = .tripped) ∧
      (t.entry (blanketHighEntry k)).condition = false ∧ (t.entry (rasLimitedEntry k)).condition = false) ∧
    (t.entry airShortEntry).condition = false ∧ (t.entry sheddingEntry).condition = false ∧
    (t.entry headerLowEntry).condition = false ∧
    (t.entry stormEntryNo).condition = decide (s.plant.force = .storm) ∧
    ((∀ e, (t.entry e).state ≠ .activeUnack) →
      t.alarm.history = s.alarm.history ∧ t.alarm.wrapped = s.alarm.wrapped))
end

