-- ==== Sys2Proof/Laws/State.lean ====
section
/-! SUPPORT. What each record update leaves unchanged, field by field, and reading a record back after writing it. -/

namespace Sys2Proof.Machine

variable (s : State)

/-! ### setLane -/

@[simp] theorem State.pending_setLane (l : LaneId) (r : Lane) : (s.setLane l r).pending = s.pending := rfl
@[simp] theorem State.held_setLane (l : LaneId) (r : Lane) : (s.setLane l r).held = s.held := rfl
@[simp] theorem State.restarting_setLane (l : LaneId) (r : Lane) : (s.setLane l r).restarting = s.restarting := rfl
@[simp] theorem State.baud_setLane (l : LaneId) (r : Lane) : (s.setLane l r).baud = s.baud := rfl
@[simp] theorem State.rx_setLane (l : LaneId) (r : Lane) : (s.setLane l r).rx = s.rx := rfl
@[simp] theorem State.reply_setLane (l : LaneId) (r : Lane) : (s.setLane l r).reply = s.reply := rfl
@[simp] theorem State.notices_setLane (l : LaneId) (r : Lane) : (s.setLane l r).notices = s.notices := rfl
@[simp] theorem State.attn_setLane (l : LaneId) (r : Lane) : (s.setLane l r).attn = s.attn := rfl
@[simp] theorem State.frameCount_setLane (l : LaneId) (r : Lane) : (s.setLane l r).frameCount = s.frameCount := rfl
@[simp] theorem State.uptime_setLane (l : LaneId) (r : Lane) : (s.setLane l r).uptime = s.uptime := rfl
@[simp] theorem State.outbound_setLane (l : LaneId) (r : Lane) : (s.setLane l r).outbound = s.outbound := rfl
@[simp] theorem State.hubs_setLane (l : LaneId) (r : Lane) : (s.setLane l r).hubs = s.hubs := rfl
@[simp] theorem State.service_setLane (l : LaneId) (r : Lane) : (s.setLane l r).service = s.service := rfl
@[simp] theorem State.points_setLane (l : LaneId) (r : Lane) : (s.setLane l r).points = s.points := rfl
@[simp] theorem State.slots_setLane (l : LaneId) (r : Lane) : (s.setLane l r).slots = s.slots := rfl
@[simp] theorem State.air_setLane (l : LaneId) (r : Lane) : (s.setLane l r).air = s.air := rfl
@[simp] theorem State.blowers_setLane (l : LaneId) (r : Lane) : (s.setLane l r).blowers = s.blowers := rfl
@[simp] theorem State.duty_setLane (l : LaneId) (r : Lane) : (s.setLane l r).duty = s.duty := rfl
@[simp] theorem State.online_setLane (l : LaneId) (r : Lane) : (s.setLane l r).online = s.online := rfl
@[simp] theorem State.header_setLane (l : LaneId) (r : Lane) : (s.setLane l r).header = s.header := rfl
@[simp] theorem State.budget_setLane (l : LaneId) (r : Lane) : (s.setLane l r).budget = s.budget := rfl
@[simp] theorem State.trains_setLane (l : LaneId) (r : Lane) : (s.setLane l r).trains = s.trains := rfl
@[simp] theorem State.plant_setLane (l : LaneId) (r : Lane) : (s.setLane l r).plant = s.plant := rfl
@[simp] theorem State.alarm_setLane (l : LaneId) (r : Lane) : (s.setLane l r).alarm = s.alarm := rfl
@[simp] theorem State.channels_setLane (l : LaneId) (r : Lane) : (s.setLane l r).channels = s.channels := rfl
@[simp] theorem State.blower_setLane (l : LaneId) (r : Lane) (b' : BlowerId) : (s.setLane l r).blower b' = s.blower b' := rfl
@[simp] theorem State.train_setLane (l : LaneId) (r : Lane) (t' : TrainId) : (s.setLane l r).train t' = s.train t' := rfl
@[simp] theorem State.hub_setLane (l : LaneId) (r : Lane) (h' : HubId) : (s.setLane l r).hub h' = s.hub h' := rfl
@[simp] theorem State.point_setLane (l : LaneId) (r : Lane) (p' : PointId) : (s.setLane l r).point p' = s.point p' := rfl
@[simp] theorem State.slot_setLane (l : LaneId) (r : Lane) (q' : SlotId) : (s.setLane l r).slot q' = s.slot q' := rfl
@[simp] theorem State.channel_setLane (l : LaneId) (r : Lane) (k' : ChannelId) : (s.setLane l r).channel k' = s.channel k' := rfl
@[simp] theorem State.entry_setLane (l : LaneId) (r : Lane) (e' : AlarmId) : (s.setLane l r).entry e' = s.entry e' := rfl
@[simp] theorem State.grant_setLane (l : LaneId) (r : Lane) (l' : LaneId) : (s.setLane l r).grant l' = s.grant l' := rfl

/-! ### setBlower -/

@[simp] theorem State.pending_setBlower (b : BlowerId) (r : Blower) : (s.setBlower b r).pending = s.pending := rfl
@[simp] theorem State.held_setBlower (b : BlowerId) (r : Blower) : (s.setBlower b r).held = s.held := rfl
@[simp] theorem State.restarting_setBlower (b : BlowerId) (r : Blower) : (s.setBlower b r).restarting = s.restarting := rfl
@[simp] theorem State.baud_setBlower (b : BlowerId) (r : Blower) : (s.setBlower b r).baud = s.baud := rfl
@[simp] theorem State.rx_setBlower (b : BlowerId) (r : Blower) : (s.setBlower b r).rx = s.rx := rfl
@[simp] theorem State.reply_setBlower (b : BlowerId) (r : Blower) : (s.setBlower b r).reply = s.reply := rfl
@[simp] theorem State.notices_setBlower (b : BlowerId) (r : Blower) : (s.setBlower b r).notices = s.notices := rfl
@[simp] theorem State.attn_setBlower (b : BlowerId) (r : Blower) : (s.setBlower b r).attn = s.attn := rfl
@[simp] theorem State.frameCount_setBlower (b : BlowerId) (r : Blower) : (s.setBlower b r).frameCount = s.frameCount := rfl
@[simp] theorem State.uptime_setBlower (b : BlowerId) (r : Blower) : (s.setBlower b r).uptime = s.uptime := rfl
@[simp] theorem State.outbound_setBlower (b : BlowerId) (r : Blower) : (s.setBlower b r).outbound = s.outbound := rfl
@[simp] theorem State.hubs_setBlower (b : BlowerId) (r : Blower) : (s.setBlower b r).hubs = s.hubs := rfl
@[simp] theorem State.service_setBlower (b : BlowerId) (r : Blower) : (s.setBlower b r).service = s.service := rfl
@[simp] theorem State.points_setBlower (b : BlowerId) (r : Blower) : (s.setBlower b r).points = s.points := rfl
@[simp] theorem State.slots_setBlower (b : BlowerId) (r : Blower) : (s.setBlower b r).slots = s.slots := rfl
@[simp] theorem State.lanes_setBlower (b : BlowerId) (r : Blower) : (s.setBlower b r).lanes = s.lanes := rfl
@[simp] theorem State.air_setBlower (b : BlowerId) (r : Blower) : (s.setBlower b r).air = s.air := rfl
@[simp] theorem State.duty_setBlower (b : BlowerId) (r : Blower) : (s.setBlower b r).duty = s.duty := rfl
@[simp] theorem State.online_setBlower (b : BlowerId) (r : Blower) : (s.setBlower b r).online = s.online := rfl
@[simp] theorem State.header_setBlower (b : BlowerId) (r : Blower) : (s.setBlower b r).header = s.header := rfl
@[simp] theorem State.budget_setBlower (b : BlowerId) (r : Blower) : (s.setBlower b r).budget = s.budget := rfl
@[simp] theorem State.trains_setBlower (b : BlowerId) (r : Blower) : (s.setBlower b r).trains = s.trains := rfl
@[simp] theorem State.plant_setBlower (b : BlowerId) (r : Blower) : (s.setBlower b r).plant = s.plant := rfl
@[simp] theorem State.alarm_setBlower (b : BlowerId) (r : Blower) : (s.setBlower b r).alarm = s.alarm := rfl
@[simp] theorem State.channels_setBlower (b : BlowerId) (r : Blower) : (s.setBlower b r).channels = s.channels := rfl
@[simp] theorem State.lane_setBlower (b : BlowerId) (r : Blower) (l' : LaneId) : (s.setBlower b r).lane l' = s.lane l' := rfl
@[simp] theorem State.train_setBlower (b : BlowerId) (r : Blower) (t' : TrainId) : (s.setBlower b r).train t' = s.train t' := rfl
@[simp] theorem State.hub_setBlower (b : BlowerId) (r : Blower) (h' : HubId) : (s.setBlower b r).hub h' = s.hub h' := rfl
@[simp] theorem State.point_setBlower (b : BlowerId) (r : Blower) (p' : PointId) : (s.setBlower b r).point p' = s.point p' := rfl
@[simp] theorem State.slot_setBlower (b : BlowerId) (r : Blower) (q' : SlotId) : (s.setBlower b r).slot q' = s.slot q' := rfl
@[simp] theorem State.channel_setBlower (b : BlowerId) (r : Blower) (k' : ChannelId) : (s.setBlower b r).channel k' = s.channel k' := rfl
@[simp] theorem State.entry_setBlower (b : BlowerId) (r : Blower) (e' : AlarmId) : (s.setBlower b r).entry e' = s.entry e' := rfl
@[simp] theorem State.grant_setBlower (b : BlowerId) (r : Blower) (l' : LaneId) : (s.setBlower b r).grant l' = s.grant l' := rfl

/-! ### setTrain -/

@[simp] theorem State.pending_setTrain (t : TrainId) (r : Train) : (s.setTrain t r).pending = s.pending := rfl
@[simp] theorem State.held_setTrain (t : TrainId) (r : Train) : (s.setTrain t r).held = s.held := rfl
@[simp] theorem State.restarting_setTrain (t : TrainId) (r : Train) : (s.setTrain t r).restarting = s.restarting := rfl
@[simp] theorem State.baud_setTrain (t : TrainId) (r : Train) : (s.setTrain t r).baud = s.baud := rfl
@[simp] theorem State.rx_setTrain (t : TrainId) (r : Train) : (s.setTrain t r).rx = s.rx := rfl
@[simp] theorem State.reply_setTrain (t : TrainId) (r : Train) : (s.setTrain t r).reply = s.reply := rfl
@[simp] theorem State.notices_setTrain (t : TrainId) (r : Train) : (s.setTrain t r).notices = s.notices := rfl
@[simp] theorem State.attn_setTrain (t : TrainId) (r : Train) : (s.setTrain t r).attn = s.attn := rfl
@[simp] theorem State.frameCount_setTrain (t : TrainId) (r : Train) : (s.setTrain t r).frameCount = s.frameCount := rfl
@[simp] theorem State.uptime_setTrain (t : TrainId) (r : Train) : (s.setTrain t r).uptime = s.uptime := rfl
@[simp] theorem State.outbound_setTrain (t : TrainId) (r : Train) : (s.setTrain t r).outbound = s.outbound := rfl
@[simp] theorem State.hubs_setTrain (t : TrainId) (r : Train) : (s.setTrain t r).hubs = s.hubs := rfl
@[simp] theorem State.service_setTrain (t : TrainId) (r : Train) : (s.setTrain t r).service = s.service := rfl
@[simp] theorem State.points_setTrain (t : TrainId) (r : Train) : (s.setTrain t r).points = s.points := rfl
@[simp] theorem State.slots_setTrain (t : TrainId) (r : Train) : (s.setTrain t r).slots = s.slots := rfl
@[simp] theorem State.lanes_setTrain (t : TrainId) (r : Train) : (s.setTrain t r).lanes = s.lanes := rfl
@[simp] theorem State.air_setTrain (t : TrainId) (r : Train) : (s.setTrain t r).air = s.air := rfl
@[simp] theorem State.blowers_setTrain (t : TrainId) (r : Train) : (s.setTrain t r).blowers = s.blowers := rfl
@[simp] theorem State.duty_setTrain (t : TrainId) (r : Train) : (s.setTrain t r).duty = s.duty := rfl
@[simp] theorem State.online_setTrain (t : TrainId) (r : Train) : (s.setTrain t r).online = s.online := rfl
@[simp] theorem State.header_setTrain (t : TrainId) (r : Train) : (s.setTrain t r).header = s.header := rfl
@[simp] theorem State.budget_setTrain (t : TrainId) (r : Train) : (s.setTrain t r).budget = s.budget := rfl
@[simp] theorem State.plant_setTrain (t : TrainId) (r : Train) : (s.setTrain t r).plant = s.plant := rfl
@[simp] theorem State.alarm_setTrain (t : TrainId) (r : Train) : (s.setTrain t r).alarm = s.alarm := rfl
@[simp] theorem State.channels_setTrain (t : TrainId) (r : Train) : (s.setTrain t r).channels = s.channels := rfl
@[simp] theorem State.lane_setTrain (t : TrainId) (r : Train) (l' : LaneId) : (s.setTrain t r).lane l' = s.lane l' := rfl
@[simp] theorem State.blower_setTrain (t : TrainId) (r : Train) (b' : BlowerId) : (s.setTrain t r).blower b' = s.blower b' := rfl
@[simp] theorem State.hub_setTrain (t : TrainId) (r : Train) (h' : HubId) : (s.setTrain t r).hub h' = s.hub h' := rfl
@[simp] theorem State.point_setTrain (t : TrainId) (r : Train) (p' : PointId) : (s.setTrain t r).point p' = s.point p' := rfl
@[simp] theorem State.slot_setTrain (t : TrainId) (r : Train) (q' : SlotId) : (s.setTrain t r).slot q' = s.slot q' := rfl
@[simp] theorem State.channel_setTrain (t : TrainId) (r : Train) (k' : ChannelId) : (s.setTrain t r).channel k' = s.channel k' := rfl
@[simp] theorem State.entry_setTrain (t : TrainId) (r : Train) (e' : AlarmId) : (s.setTrain t r).entry e' = s.entry e' := rfl
@[simp] theorem State.grant_setTrain (t : TrainId) (r : Train) (l' : LaneId) : (s.setTrain t r).grant l' = s.grant l' := rfl

/-! ### setHub -/

@[simp] theorem State.pending_setHub (h : HubId) (r : Hub) : (s.setHub h r).pending = s.pending := rfl
@[simp] theorem State.held_setHub (h : HubId) (r : Hub) : (s.setHub h r).held = s.held := rfl
@[simp] theorem State.restarting_setHub (h : HubId) (r : Hub) : (s.setHub h r).restarting = s.restarting := rfl
@[simp] theorem State.baud_setHub (h : HubId) (r : Hub) : (s.setHub h r).baud = s.baud := rfl
@[simp] theorem State.rx_setHub (h : HubId) (r : Hub) : (s.setHub h r).rx = s.rx := rfl
@[simp] theorem State.reply_setHub (h : HubId) (r : Hub) : (s.setHub h r).reply = s.reply := rfl
@[simp] theorem State.notices_setHub (h : HubId) (r : Hub) : (s.setHub h r).notices = s.notices := rfl
@[simp] theorem State.attn_setHub (h : HubId) (r : Hub) : (s.setHub h r).attn = s.attn := rfl
@[simp] theorem State.frameCount_setHub (h : HubId) (r : Hub) : (s.setHub h r).frameCount = s.frameCount := rfl
@[simp] theorem State.uptime_setHub (h : HubId) (r : Hub) : (s.setHub h r).uptime = s.uptime := rfl
@[simp] theorem State.outbound_setHub (h : HubId) (r : Hub) : (s.setHub h r).outbound = s.outbound := rfl
@[simp] theorem State.service_setHub (h : HubId) (r : Hub) : (s.setHub h r).service = s.service := rfl
@[simp] theorem State.points_setHub (h : HubId) (r : Hub) : (s.setHub h r).points = s.points := rfl
@[simp] theorem State.slots_setHub (h : HubId) (r : Hub) : (s.setHub h r).slots = s.slots := rfl
@[simp] theorem State.lanes_setHub (h : HubId) (r : Hub) : (s.setHub h r).lanes = s.lanes := rfl
@[simp] theorem State.air_setHub (h : HubId) (r : Hub) : (s.setHub h r).air = s.air := rfl
@[simp] theorem State.blowers_setHub (h : HubId) (r : Hub) : (s.setHub h r).blowers = s.blowers := rfl
@[simp] theorem State.duty_setHub (h : HubId) (r : Hub) : (s.setHub h r).duty = s.duty := rfl
@[simp] theorem State.online_setHub (h : HubId) (r : Hub) : (s.setHub h r).online = s.online := rfl
@[simp] theorem State.header_setHub (h : HubId) (r : Hub) : (s.setHub h r).header = s.header := rfl
@[simp] theorem State.budget_setHub (h : HubId) (r : Hub) : (s.setHub h r).budget = s.budget := rfl
@[simp] theorem State.trains_setHub (h : HubId) (r : Hub) : (s.setHub h r).trains = s.trains := rfl
@[simp] theorem State.plant_setHub (h : HubId) (r : Hub) : (s.setHub h r).plant = s.plant := rfl
@[simp] theorem State.alarm_setHub (h : HubId) (r : Hub) : (s.setHub h r).alarm = s.alarm := rfl
@[simp] theorem State.channels_setHub (h : HubId) (r : Hub) : (s.setHub h r).channels = s.channels := rfl
@[simp] theorem State.lane_setHub (h : HubId) (r : Hub) (l' : LaneId) : (s.setHub h r).lane l' = s.lane l' := rfl
@[simp] theorem State.blower_setHub (h : HubId) (r : Hub) (b' : BlowerId) : (s.setHub h r).blower b' = s.blower b' := rfl
@[simp] theorem State.train_setHub (h : HubId) (r : Hub) (t' : TrainId) : (s.setHub h r).train t' = s.train t' := rfl
@[simp] theorem State.point_setHub (h : HubId) (r : Hub) (p' : PointId) : (s.setHub h r).point p' = s.point p' := rfl
@[simp] theorem State.slot_setHub (h : HubId) (r : Hub) (q' : SlotId) : (s.setHub h r).slot q' = s.slot q' := rfl
@[simp] theorem State.channel_setHub (h : HubId) (r : Hub) (k' : ChannelId) : (s.setHub h r).channel k' = s.channel k' := rfl
@[simp] theorem State.entry_setHub (h : HubId) (r : Hub) (e' : AlarmId) : (s.setHub h r).entry e' = s.entry e' := rfl
@[simp] theorem State.grant_setHub (h : HubId) (r : Hub) (l' : LaneId) : (s.setHub h r).grant l' = s.grant l' := rfl

/-! ### setPoint -/

@[simp] theorem State.pending_setPoint (p : PointId) (r : Point) : (s.setPoint p r).pending = s.pending := rfl
@[simp] theorem State.held_setPoint (p : PointId) (r : Point) : (s.setPoint p r).held = s.held := rfl
@[simp] theorem State.restarting_setPoint (p : PointId) (r : Point) : (s.setPoint p r).restarting = s.restarting := rfl
@[simp] theorem State.baud_setPoint (p : PointId) (r : Point) : (s.setPoint p r).baud = s.baud := rfl
@[simp] theorem State.rx_setPoint (p : PointId) (r : Point) : (s.setPoint p r).rx = s.rx := rfl
@[simp] theorem State.reply_setPoint (p : PointId) (r : Point) : (s.setPoint p r).reply = s.reply := rfl
@[simp] theorem State.notices_setPoint (p : PointId) (r : Point) : (s.setPoint p r).notices = s.notices := rfl
@[simp] theorem State.attn_setPoint (p : PointId) (r : Point) : (s.setPoint p r).attn = s.attn := rfl
@[simp] theorem State.frameCount_setPoint (p : PointId) (r : Point) : (s.setPoint p r).frameCount = s.frameCount := rfl
@[simp] theorem State.uptime_setPoint (p : PointId) (r : Point) : (s.setPoint p r).uptime = s.uptime := rfl
@[simp] theorem State.outbound_setPoint (p : PointId) (r : Point) : (s.setPoint p r).outbound = s.outbound := rfl
@[simp] theorem State.hubs_setPoint (p : PointId) (r : Point) : (s.setPoint p r).hubs = s.hubs := rfl
@[simp] theorem State.service_setPoint (p : PointId) (r : Point) : (s.setPoint p r).service = s.service := rfl
@[simp] theorem State.slots_setPoint (p : PointId) (r : Point) : (s.setPoint p r).slots = s.slots := rfl
@[simp] theorem State.lanes_setPoint (p : PointId) (r : Point) : (s.setPoint p r).lanes = s.lanes := rfl
@[simp] theorem State.air_setPoint (p : PointId) (r : Point) : (s.setPoint p r).air = s.air := rfl
@[simp] theorem State.blowers_setPoint (p : PointId) (r : Point) : (s.setPoint p r).blowers = s.blowers := rfl
@[simp] theorem State.duty_setPoint (p : PointId) (r : Point) : (s.setPoint p r).duty = s.duty := rfl
@[simp] theorem State.online_setPoint (p : PointId) (r : Point) : (s.setPoint p r).online = s.online := rfl
@[simp] theorem State.header_setPoint (p : PointId) (r : Point) : (s.setPoint p r).header = s.header := rfl
@[simp] theorem State.budget_setPoint (p : PointId) (r : Point) : (s.setPoint p r).budget = s.budget := rfl
@[simp] theorem State.trains_setPoint (p : PointId) (r : Point) : (s.setPoint p r).trains = s.trains := rfl
@[simp] theorem State.plant_setPoint (p : PointId) (r : Point) : (s.setPoint p r).plant = s.plant := rfl
@[simp] theorem State.alarm_setPoint (p : PointId) (r : Point) : (s.setPoint p r).alarm = s.alarm := rfl
@[simp] theorem State.channels_setPoint (p : PointId) (r : Point) : (s.setPoint p r).channels = s.channels := rfl
@[simp] theorem State.lane_setPoint (p : PointId) (r : Point) (l' : LaneId) : (s.setPoint p r).lane l' = s.lane l' := rfl
@[simp] theorem State.blower_setPoint (p : PointId) (r : Point) (b' : BlowerId) : (s.setPoint p r).blower b' = s.blower b' := rfl
@[simp] theorem State.train_setPoint (p : PointId) (r : Point) (t' : TrainId) : (s.setPoint p r).train t' = s.train t' := rfl
@[simp] theorem State.hub_setPoint (p : PointId) (r : Point) (h' : HubId) : (s.setPoint p r).hub h' = s.hub h' := rfl
@[simp] theorem State.slot_setPoint (p : PointId) (r : Point) (q' : SlotId) : (s.setPoint p r).slot q' = s.slot q' := rfl
@[simp] theorem State.channel_setPoint (p : PointId) (r : Point) (k' : ChannelId) : (s.setPoint p r).channel k' = s.channel k' := rfl
@[simp] theorem State.entry_setPoint (p : PointId) (r : Point) (e' : AlarmId) : (s.setPoint p r).entry e' = s.entry e' := rfl
@[simp] theorem State.grant_setPoint (p : PointId) (r : Point) (l' : LaneId) : (s.setPoint p r).grant l' = s.grant l' := rfl

/-! ### setSlot -/

@[simp] theorem State.pending_setSlot (q : SlotId) (r : Slot) : (s.setSlot q r).pending = s.pending := rfl
@[simp] theorem State.held_setSlot (q : SlotId) (r : Slot) : (s.setSlot q r).held = s.held := rfl
@[simp] theorem State.restarting_setSlot (q : SlotId) (r : Slot) : (s.setSlot q r).restarting = s.restarting := rfl
@[simp] theorem State.baud_setSlot (q : SlotId) (r : Slot) : (s.setSlot q r).baud = s.baud := rfl
@[simp] theorem State.rx_setSlot (q : SlotId) (r : Slot) : (s.setSlot q r).rx = s.rx := rfl
@[simp] theorem State.reply_setSlot (q : SlotId) (r : Slot) : (s.setSlot q r).reply = s.reply := rfl
@[simp] theorem State.notices_setSlot (q : SlotId) (r : Slot) : (s.setSlot q r).notices = s.notices := rfl
@[simp] theorem State.attn_setSlot (q : SlotId) (r : Slot) : (s.setSlot q r).attn = s.attn := rfl
@[simp] theorem State.frameCount_setSlot (q : SlotId) (r : Slot) : (s.setSlot q r).frameCount = s.frameCount := rfl
@[simp] theorem State.uptime_setSlot (q : SlotId) (r : Slot) : (s.setSlot q r).uptime = s.uptime := rfl
@[simp] theorem State.outbound_setSlot (q : SlotId) (r : Slot) : (s.setSlot q r).outbound = s.outbound := rfl
@[simp] theorem State.hubs_setSlot (q : SlotId) (r : Slot) : (s.setSlot q r).hubs = s.hubs := rfl
@[simp] theorem State.service_setSlot (q : SlotId) (r : Slot) : (s.setSlot q r).service = s.service := rfl
@[simp] theorem State.points_setSlot (q : SlotId) (r : Slot) : (s.setSlot q r).points = s.points := rfl
@[simp] theorem State.lanes_setSlot (q : SlotId) (r : Slot) : (s.setSlot q r).lanes = s.lanes := rfl
@[simp] theorem State.air_setSlot (q : SlotId) (r : Slot) : (s.setSlot q r).air = s.air := rfl
@[simp] theorem State.blowers_setSlot (q : SlotId) (r : Slot) : (s.setSlot q r).blowers = s.blowers := rfl
@[simp] theorem State.duty_setSlot (q : SlotId) (r : Slot) : (s.setSlot q r).duty = s.duty := rfl
@[simp] theorem State.online_setSlot (q : SlotId) (r : Slot) : (s.setSlot q r).online = s.online := rfl
@[simp] theorem State.header_setSlot (q : SlotId) (r : Slot) : (s.setSlot q r).header = s.header := rfl
@[simp] theorem State.budget_setSlot (q : SlotId) (r : Slot) : (s.setSlot q r).budget = s.budget := rfl
@[simp] theorem State.trains_setSlot (q : SlotId) (r : Slot) : (s.setSlot q r).trains = s.trains := rfl
@[simp] theorem State.plant_setSlot (q : SlotId) (r : Slot) : (s.setSlot q r).plant = s.plant := rfl
@[simp] theorem State.alarm_setSlot (q : SlotId) (r : Slot) : (s.setSlot q r).alarm = s.alarm := rfl
@[simp] theorem State.channels_setSlot (q : SlotId) (r : Slot) : (s.setSlot q r).channels = s.channels := rfl
@[simp] theorem State.lane_setSlot (q : SlotId) (r : Slot) (l' : LaneId) : (s.setSlot q r).lane l' = s.lane l' := rfl
@[simp] theorem State.blower_setSlot (q : SlotId) (r : Slot) (b' : BlowerId) : (s.setSlot q r).blower b' = s.blower b' := rfl
@[simp] theorem State.train_setSlot (q : SlotId) (r : Slot) (t' : TrainId) : (s.setSlot q r).train t' = s.train t' := rfl
@[simp] theorem State.hub_setSlot (q : SlotId) (r : Slot) (h' : HubId) : (s.setSlot q r).hub h' = s.hub h' := rfl
@[simp] theorem State.point_setSlot (q : SlotId) (r : Slot) (p' : PointId) : (s.setSlot q r).point p' = s.point p' := rfl
@[simp] theorem State.channel_setSlot (q : SlotId) (r : Slot) (k' : ChannelId) : (s.setSlot q r).channel k' = s.channel k' := rfl
@[simp] theorem State.entry_setSlot (q : SlotId) (r : Slot) (e' : AlarmId) : (s.setSlot q r).entry e' = s.entry e' := rfl
@[simp] theorem State.grant_setSlot (q : SlotId) (r : Slot) (l' : LaneId) : (s.setSlot q r).grant l' = s.grant l' := rfl

/-! ### setChannel -/

@[simp] theorem State.pending_setChannel (k : ChannelId) (r : Channel) : (s.setChannel k r).pending = s.pending := rfl
@[simp] theorem State.held_setChannel (k : ChannelId) (r : Channel) : (s.setChannel k r).held = s.held := rfl
@[simp] theorem State.restarting_setChannel (k : ChannelId) (r : Channel) : (s.setChannel k r).restarting = s.restarting := rfl
@[simp] theorem State.baud_setChannel (k : ChannelId) (r : Channel) : (s.setChannel k r).baud = s.baud := rfl
@[simp] theorem State.rx_setChannel (k : ChannelId) (r : Channel) : (s.setChannel k r).rx = s.rx := rfl
@[simp] theorem State.reply_setChannel (k : ChannelId) (r : Channel) : (s.setChannel k r).reply = s.reply := rfl
@[simp] theorem State.notices_setChannel (k : ChannelId) (r : Channel) : (s.setChannel k r).notices = s.notices := rfl
@[simp] theorem State.attn_setChannel (k : ChannelId) (r : Channel) : (s.setChannel k r).attn = s.attn := rfl
@[simp] theorem State.frameCount_setChannel (k : ChannelId) (r : Channel) : (s.setChannel k r).frameCount = s.frameCount := rfl
@[simp] theorem State.uptime_setChannel (k : ChannelId) (r : Channel) : (s.setChannel k r).uptime = s.uptime := rfl
@[simp] theorem State.outbound_setChannel (k : ChannelId) (r : Channel) : (s.setChannel k r).outbound = s.outbound := rfl
@[simp] theorem State.hubs_setChannel (k : ChannelId) (r : Channel) : (s.setChannel k r).hubs = s.hubs := rfl
@[simp] theorem State.service_setChannel (k : ChannelId) (r : Channel) : (s.setChannel k r).service = s.service := rfl
@[simp] theorem State.points_setChannel (k : ChannelId) (r : Channel) : (s.setChannel k r).points = s.points := rfl
@[simp] theorem State.slots_setChannel (k : ChannelId) (r : Channel) : (s.setChannel k r).slots = s.slots := rfl
@[simp] theorem State.lanes_setChannel (k : ChannelId) (r : Channel) : (s.setChannel k r).lanes = s.lanes := rfl
@[simp] theorem State.air_setChannel (k : ChannelId) (r : Channel) : (s.setChannel k r).air = s.air := rfl
@[simp] theorem State.blowers_setChannel (k : ChannelId) (r : Channel) : (s.setChannel k r).blowers = s.blowers := rfl
@[simp] theorem State.duty_setChannel (k : ChannelId) (r : Channel) : (s.setChannel k r).duty = s.duty := rfl
@[simp] theorem State.online_setChannel (k : ChannelId) (r : Channel) : (s.setChannel k r).online = s.online := rfl
@[simp] theorem State.header_setChannel (k : ChannelId) (r : Channel) : (s.setChannel k r).header = s.header := rfl
@[simp] theorem State.budget_setChannel (k : ChannelId) (r : Channel) : (s.setChannel k r).budget = s.budget := rfl
@[simp] theorem State.trains_setChannel (k : ChannelId) (r : Channel) : (s.setChannel k r).trains = s.trains := rfl
@[simp] theorem State.plant_setChannel (k : ChannelId) (r : Channel) : (s.setChannel k r).plant = s.plant := rfl
@[simp] theorem State.alarm_setChannel (k : ChannelId) (r : Channel) : (s.setChannel k r).alarm = s.alarm := rfl
@[simp] theorem State.lane_setChannel (k : ChannelId) (r : Channel) (l' : LaneId) : (s.setChannel k r).lane l' = s.lane l' := rfl
@[simp] theorem State.blower_setChannel (k : ChannelId) (r : Channel) (b' : BlowerId) : (s.setChannel k r).blower b' = s.blower b' := rfl
@[simp] theorem State.train_setChannel (k : ChannelId) (r : Channel) (t' : TrainId) : (s.setChannel k r).train t' = s.train t' := rfl
@[simp] theorem State.hub_setChannel (k : ChannelId) (r : Channel) (h' : HubId) : (s.setChannel k r).hub h' = s.hub h' := rfl
@[simp] theorem State.point_setChannel (k : ChannelId) (r : Channel) (p' : PointId) : (s.setChannel k r).point p' = s.point p' := rfl
@[simp] theorem State.slot_setChannel (k : ChannelId) (r : Channel) (q' : SlotId) : (s.setChannel k r).slot q' = s.slot q' := rfl
@[simp] theorem State.entry_setChannel (k : ChannelId) (r : Channel) (e' : AlarmId) : (s.setChannel k r).entry e' = s.entry e' := rfl
@[simp] theorem State.grant_setChannel (k : ChannelId) (r : Channel) (l' : LaneId) : (s.setChannel k r).grant l' = s.grant l' := rfl

/-! ### setEntry -/

@[simp] theorem State.pending_setEntry (e : AlarmId) (r : Entry) : (s.setEntry e r).pending = s.pending := rfl
@[simp] theorem State.held_setEntry (e : AlarmId) (r : Entry) : (s.setEntry e r).held = s.held := rfl
@[simp] theorem State.restarting_setEntry (e : AlarmId) (r : Entry) : (s.setEntry e r).restarting = s.restarting := rfl
@[simp] theorem State.baud_setEntry (e : AlarmId) (r : Entry) : (s.setEntry e r).baud = s.baud := rfl
@[simp] theorem State.rx_setEntry (e : AlarmId) (r : Entry) : (s.setEntry e r).rx = s.rx := rfl
@[simp] theorem State.reply_setEntry (e : AlarmId) (r : Entry) : (s.setEntry e r).reply = s.reply := rfl
@[simp] theorem State.notices_setEntry (e : AlarmId) (r : Entry) : (s.setEntry e r).notices = s.notices := rfl
@[simp] theorem State.attn_setEntry (e : AlarmId) (r : Entry) : (s.setEntry e r).attn = s.attn := rfl
@[simp] theorem State.frameCount_setEntry (e : AlarmId) (r : Entry) : (s.setEntry e r).frameCount = s.frameCount := rfl
@[simp] theorem State.uptime_setEntry (e : AlarmId) (r : Entry) : (s.setEntry e r).uptime = s.uptime := rfl
@[simp] theorem State.outbound_setEntry (e : AlarmId) (r : Entry) : (s.setEntry e r).outbound = s.outbound := rfl
@[simp] theorem State.hubs_setEntry (e : AlarmId) (r : Entry) : (s.setEntry e r).hubs = s.hubs := rfl
@[simp] theorem State.service_setEntry (e : AlarmId) (r : Entry) : (s.setEntry e r).service = s.service := rfl
@[simp] theorem State.points_setEntry (e : AlarmId) (r : Entry) : (s.setEntry e r).points = s.points := rfl
@[simp] theorem State.slots_setEntry (e : AlarmId) (r : Entry) : (s.setEntry e r).slots = s.slots := rfl
@[simp] theorem State.lanes_setEntry (e : AlarmId) (r : Entry) : (s.setEntry e r).lanes = s.lanes := rfl
@[simp] theorem State.air_setEntry (e : AlarmId) (r : Entry) : (s.setEntry e r).air = s.air := rfl
@[simp] theorem State.blowers_setEntry (e : AlarmId) (r : Entry) : (s.setEntry e r).blowers = s.blowers := rfl
@[simp] theorem State.duty_setEntry (e : AlarmId) (r : Entry) : (s.setEntry e r).duty = s.duty := rfl
@[simp] theorem State.online_setEntry (e : AlarmId) (r : Entry) : (s.setEntry e r).online = s.online := rfl
@[simp] theorem State.header_setEntry (e : AlarmId) (r : Entry) : (s.setEntry e r).header = s.header := rfl
@[simp] theorem State.budget_setEntry (e : AlarmId) (r : Entry) : (s.setEntry e r).budget = s.budget := rfl
@[simp] theorem State.trains_setEntry (e : AlarmId) (r : Entry) : (s.setEntry e r).trains = s.trains := rfl
@[simp] theorem State.plant_setEntry (e : AlarmId) (r : Entry) : (s.setEntry e r).plant = s.plant := rfl
@[simp] theorem State.channels_setEntry (e : AlarmId) (r : Entry) : (s.setEntry e r).channels = s.channels := rfl
@[simp] theorem State.lane_setEntry (e : AlarmId) (r : Entry) (l' : LaneId) : (s.setEntry e r).lane l' = s.lane l' := rfl
@[simp] theorem State.blower_setEntry (e : AlarmId) (r : Entry) (b' : BlowerId) : (s.setEntry e r).blower b' = s.blower b' := rfl
@[simp] theorem State.train_setEntry (e : AlarmId) (r : Entry) (t' : TrainId) : (s.setEntry e r).train t' = s.train t' := rfl
@[simp] theorem State.hub_setEntry (e : AlarmId) (r : Entry) (h' : HubId) : (s.setEntry e r).hub h' = s.hub h' := rfl
@[simp] theorem State.point_setEntry (e : AlarmId) (r : Entry) (p' : PointId) : (s.setEntry e r).point p' = s.point p' := rfl
@[simp] theorem State.slot_setEntry (e : AlarmId) (r : Entry) (q' : SlotId) : (s.setEntry e r).slot q' = s.slot q' := rfl
@[simp] theorem State.channel_setEntry (e : AlarmId) (r : Entry) (k' : ChannelId) : (s.setEntry e r).channel k' = s.channel k' := rfl
@[simp] theorem State.grant_setEntry (e : AlarmId) (r : Entry) (l' : LaneId) : (s.setEntry e r).grant l' = s.grant l' := rfl

/-! ### setBudget -/

@[simp] theorem State.pending_setBudget (u : Budget) : (s.setBudget u).pending = s.pending := rfl
@[simp] theorem State.held_setBudget (u : Budget) : (s.setBudget u).held = s.held := rfl
@[simp] theorem State.restarting_setBudget (u : Budget) : (s.setBudget u).restarting = s.restarting := rfl
@[simp] theorem State.baud_setBudget (u : Budget) : (s.setBudget u).baud = s.baud := rfl
@[simp] theorem State.rx_setBudget (u : Budget) : (s.setBudget u).rx = s.rx := rfl
@[simp] theorem State.reply_setBudget (u : Budget) : (s.setBudget u).reply = s.reply := rfl
@[simp] theorem State.notices_setBudget (u : Budget) : (s.setBudget u).notices = s.notices := rfl
@[simp] theorem State.attn_setBudget (u : Budget) : (s.setBudget u).attn = s.attn := rfl
@[simp] theorem State.frameCount_setBudget (u : Budget) : (s.setBudget u).frameCount = s.frameCount := rfl
@[simp] theorem State.uptime_setBudget (u : Budget) : (s.setBudget u).uptime = s.uptime := rfl
@[simp] theorem State.outbound_setBudget (u : Budget) : (s.setBudget u).outbound = s.outbound := rfl
@[simp] theorem State.hubs_setBudget (u : Budget) : (s.setBudget u).hubs = s.hubs := rfl
@[simp] theorem State.service_setBudget (u : Budget) : (s.setBudget u).service = s.service := rfl
@[simp] theorem State.points_setBudget (u : Budget) : (s.setBudget u).points = s.points := rfl
@[simp] theorem State.slots_setBudget (u : Budget) : (s.setBudget u).slots = s.slots := rfl
@[simp] theorem State.lanes_setBudget (u : Budget) : (s.setBudget u).lanes = s.lanes := rfl
@[simp] theorem State.air_setBudget (u : Budget) : (s.setBudget u).air = s.air := rfl
@[simp] theorem State.blowers_setBudget (u : Budget) : (s.setBudget u).blowers = s.blowers := rfl
@[simp] theorem State.duty_setBudget (u : Budget) : (s.setBudget u).duty = s.duty := rfl
@[simp] theorem State.online_setBudget (u : Budget) : (s.setBudget u).online = s.online := rfl
@[simp] theorem State.header_setBudget (u : Budget) : (s.setBudget u).header = s.header := rfl
@[simp] theorem State.trains_setBudget (u : Budget) : (s.setBudget u).trains = s.trains := rfl
@[simp] theorem State.plant_setBudget (u : Budget) : (s.setBudget u).plant = s.plant := rfl
@[simp] theorem State.alarm_setBudget (u : Budget) : (s.setBudget u).alarm = s.alarm := rfl
@[simp] theorem State.channels_setBudget (u : Budget) : (s.setBudget u).channels = s.channels := rfl
@[simp] theorem State.lane_setBudget (u : Budget) (l' : LaneId) : (s.setBudget u).lane l' = s.lane l' := rfl
@[simp] theorem State.blower_setBudget (u : Budget) (b' : BlowerId) : (s.setBudget u).blower b' = s.blower b' := rfl
@[simp] theorem State.train_setBudget (u : Budget) (t' : TrainId) : (s.setBudget u).train t' = s.train t' := rfl
@[simp] theorem State.hub_setBudget (u : Budget) (h' : HubId) : (s.setBudget u).hub h' = s.hub h' := rfl
@[simp] theorem State.point_setBudget (u : Budget) (p' : PointId) : (s.setBudget u).point p' = s.point p' := rfl
@[simp] theorem State.slot_setBudget (u : Budget) (q' : SlotId) : (s.setBudget u).slot q' = s.slot q' := rfl
@[simp] theorem State.channel_setBudget (u : Budget) (k' : ChannelId) : (s.setBudget u).channel k' = s.channel k' := rfl
@[simp] theorem State.entry_setBudget (u : Budget) (e' : AlarmId) : (s.setBudget u).entry e' = s.entry e' := rfl
@[simp] theorem State.grant_setBudget (u : Budget) (l' : LaneId) : (s.setBudget u).grant l' = s.grant l' := rfl

/-! ### setHeader -/

@[simp] theorem State.pending_setHeader (h : Header) : (s.setHeader h).pending = s.pending := rfl
@[simp] theorem State.held_setHeader (h : Header) : (s.setHeader h).held = s.held := rfl
@[simp] theorem State.restarting_setHeader (h : Header) : (s.setHeader h).restarting = s.restarting := rfl
@[simp] theorem State.baud_setHeader (h : Header) : (s.setHeader h).baud = s.baud := rfl
@[simp] theorem State.rx_setHeader (h : Header) : (s.setHeader h).rx = s.rx := rfl
@[simp] theorem State.reply_setHeader (h : Header) : (s.setHeader h).reply = s.reply := rfl
@[simp] theorem State.notices_setHeader (h : Header) : (s.setHeader h).notices = s.notices := rfl
@[simp] theorem State.attn_setHeader (h : Header) : (s.setHeader h).attn = s.attn := rfl
@[simp] theorem State.frameCount_setHeader (h : Header) : (s.setHeader h).frameCount = s.frameCount := rfl
@[simp] theorem State.uptime_setHeader (h : Header) : (s.setHeader h).uptime = s.uptime := rfl
@[simp] theorem State.outbound_setHeader (h : Header) : (s.setHeader h).outbound = s.outbound := rfl
@[simp] theorem State.hubs_setHeader (h : Header) : (s.setHeader h).hubs = s.hubs := rfl
@[simp] theorem State.service_setHeader (h : Header) : (s.setHeader h).service = s.service := rfl
@[simp] theorem State.points_setHeader (h : Header) : (s.setHeader h).points = s.points := rfl
@[simp] theorem State.slots_setHeader (h : Header) : (s.setHeader h).slots = s.slots := rfl
@[simp] theorem State.lanes_setHeader (h : Header) : (s.setHeader h).lanes = s.lanes := rfl
@[simp] theorem State.air_setHeader (h : Header) : (s.setHeader h).air = s.air := rfl
@[simp] theorem State.blowers_setHeader (h : Header) : (s.setHeader h).blowers = s.blowers := rfl
@[simp] theorem State.duty_setHeader (h : Header) : (s.setHeader h).duty = s.duty := rfl
@[simp] theorem State.online_setHeader (h : Header) : (s.setHeader h).online = s.online := rfl
@[simp] theorem State.budget_setHeader (h : Header) : (s.setHeader h).budget = s.budget := rfl
@[simp] theorem State.trains_setHeader (h : Header) : (s.setHeader h).trains = s.trains := rfl
@[simp] theorem State.plant_setHeader (h : Header) : (s.setHeader h).plant = s.plant := rfl
@[simp] theorem State.alarm_setHeader (h : Header) : (s.setHeader h).alarm = s.alarm := rfl
@[simp] theorem State.channels_setHeader (h : Header) : (s.setHeader h).channels = s.channels := rfl
@[simp] theorem State.lane_setHeader (h : Header) (l' : LaneId) : (s.setHeader h).lane l' = s.lane l' := rfl
@[simp] theorem State.blower_setHeader (h : Header) (b' : BlowerId) : (s.setHeader h).blower b' = s.blower b' := rfl
@[simp] theorem State.train_setHeader (h : Header) (t' : TrainId) : (s.setHeader h).train t' = s.train t' := rfl
@[simp] theorem State.hub_setHeader (h : Header) (h' : HubId) : (s.setHeader h).hub h' = s.hub h' := rfl
@[simp] theorem State.point_setHeader (h : Header) (p' : PointId) : (s.setHeader h).point p' = s.point p' := rfl
@[simp] theorem State.slot_setHeader (h : Header) (q' : SlotId) : (s.setHeader h).slot q' = s.slot q' := rfl
@[simp] theorem State.channel_setHeader (h : Header) (k' : ChannelId) : (s.setHeader h).channel k' = s.channel k' := rfl
@[simp] theorem State.entry_setHeader (h : Header) (e' : AlarmId) : (s.setHeader h).entry e' = s.entry e' := rfl
@[simp] theorem State.grant_setHeader (h : Header) (l' : LaneId) : (s.setHeader h).grant l' = s.grant l' := rfl

/-! ### setPlant -/

@[simp] theorem State.pending_setPlant (p : Plant) : (s.setPlant p).pending = s.pending := rfl
@[simp] theorem State.held_setPlant (p : Plant) : (s.setPlant p).held = s.held := rfl
@[simp] theorem State.restarting_setPlant (p : Plant) : (s.setPlant p).restarting = s.restarting := rfl
@[simp] theorem State.baud_setPlant (p : Plant) : (s.setPlant p).baud = s.baud := rfl
@[simp] theorem State.rx_setPlant (p : Plant) : (s.setPlant p).rx = s.rx := rfl
@[simp] theorem State.reply_setPlant (p : Plant) : (s.setPlant p).reply = s.reply := rfl
@[simp] theorem State.notices_setPlant (p : Plant) : (s.setPlant p).notices = s.notices := rfl
@[simp] theorem State.attn_setPlant (p : Plant) : (s.setPlant p).attn = s.attn := rfl
@[simp] theorem State.frameCount_setPlant (p : Plant) : (s.setPlant p).frameCount = s.frameCount := rfl
@[simp] theorem State.uptime_setPlant (p : Plant) : (s.setPlant p).uptime = s.uptime := rfl
@[simp] theorem State.outbound_setPlant (p : Plant) : (s.setPlant p).outbound = s.outbound := rfl
@[simp] theorem State.hubs_setPlant (p : Plant) : (s.setPlant p).hubs = s.hubs := rfl
@[simp] theorem State.service_setPlant (p : Plant) : (s.setPlant p).service = s.service := rfl
@[simp] theorem State.points_setPlant (p : Plant) : (s.setPlant p).points = s.points := rfl
@[simp] theorem State.slots_setPlant (p : Plant) : (s.setPlant p).slots = s.slots := rfl
@[simp] theorem State.lanes_setPlant (p : Plant) : (s.setPlant p).lanes = s.lanes := rfl
@[simp] theorem State.air_setPlant (p : Plant) : (s.setPlant p).air = s.air := rfl
@[simp] theorem State.blowers_setPlant (p : Plant) : (s.setPlant p).blowers = s.blowers := rfl
@[simp] theorem State.duty_setPlant (p : Plant) : (s.setPlant p).duty = s.duty := rfl
@[simp] theorem State.online_setPlant (p : Plant) : (s.setPlant p).online = s.online := rfl
@[simp] theorem State.header_setPlant (p : Plant) : (s.setPlant p).header = s.header := rfl
@[simp] theorem State.budget_setPlant (p : Plant) : (s.setPlant p).budget = s.budget := rfl
@[simp] theorem State.trains_setPlant (p : Plant) : (s.setPlant p).trains = s.trains := rfl
@[simp] theorem State.alarm_setPlant (p : Plant) : (s.setPlant p).alarm = s.alarm := rfl
@[simp] theorem State.channels_setPlant (p : Plant) : (s.setPlant p).channels = s.channels := rfl
@[simp] theorem State.lane_setPlant (p : Plant) (l' : LaneId) : (s.setPlant p).lane l' = s.lane l' := rfl
@[simp] theorem State.blower_setPlant (p : Plant) (b' : BlowerId) : (s.setPlant p).blower b' = s.blower b' := rfl
@[simp] theorem State.train_setPlant (p : Plant) (t' : TrainId) : (s.setPlant p).train t' = s.train t' := rfl
@[simp] theorem State.hub_setPlant (p : Plant) (h' : HubId) : (s.setPlant p).hub h' = s.hub h' := rfl
@[simp] theorem State.point_setPlant (p : Plant) (p' : PointId) : (s.setPlant p).point p' = s.point p' := rfl
@[simp] theorem State.slot_setPlant (p : Plant) (q' : SlotId) : (s.setPlant p).slot q' = s.slot q' := rfl
@[simp] theorem State.channel_setPlant (p : Plant) (k' : ChannelId) : (s.setPlant p).channel k' = s.channel k' := rfl
@[simp] theorem State.entry_setPlant (p : Plant) (e' : AlarmId) : (s.setPlant p).entry e' = s.entry e' := rfl
@[simp] theorem State.grant_setPlant (p : Plant) (l' : LaneId) : (s.setPlant p).grant l' = s.grant l' := rfl

/-! ### setGrant -/

@[simp] theorem State.pending_setGrant (l : LaneId) (g : Nat) : (s.setGrant l g).pending = s.pending := rfl
@[simp] theorem State.held_setGrant (l : LaneId) (g : Nat) : (s.setGrant l g).held = s.held := rfl
@[simp] theorem State.restarting_setGrant (l : LaneId) (g : Nat) : (s.setGrant l g).restarting = s.restarting := rfl
@[simp] theorem State.baud_setGrant (l : LaneId) (g : Nat) : (s.setGrant l g).baud = s.baud := rfl
@[simp] theorem State.rx_setGrant (l : LaneId) (g : Nat) : (s.setGrant l g).rx = s.rx := rfl
@[simp] theorem State.reply_setGrant (l : LaneId) (g : Nat) : (s.setGrant l g).reply = s.reply := rfl
@[simp] theorem State.notices_setGrant (l : LaneId) (g : Nat) : (s.setGrant l g).notices = s.notices := rfl
@[simp] theorem State.attn_setGrant (l : LaneId) (g : Nat) : (s.setGrant l g).attn = s.attn := rfl
@[simp] theorem State.frameCount_setGrant (l : LaneId) (g : Nat) : (s.setGrant l g).frameCount = s.frameCount := rfl
@[simp] theorem State.uptime_setGrant (l : LaneId) (g : Nat) : (s.setGrant l g).uptime = s.uptime := rfl
@[simp] theorem State.outbound_setGrant (l : LaneId) (g : Nat) : (s.setGrant l g).outbound = s.outbound := rfl
@[simp] theorem State.hubs_setGrant (l : LaneId) (g : Nat) : (s.setGrant l g).hubs = s.hubs := rfl
@[simp] theorem State.service_setGrant (l : LaneId) (g : Nat) : (s.setGrant l g).service = s.service := rfl
@[simp] theorem State.points_setGrant (l : LaneId) (g : Nat) : (s.setGrant l g).points = s.points := rfl
@[simp] theorem State.slots_setGrant (l : LaneId) (g : Nat) : (s.setGrant l g).slots = s.slots := rfl
@[simp] theorem State.lanes_setGrant (l : LaneId) (g : Nat) : (s.setGrant l g).lanes = s.lanes := rfl
@[simp] theorem State.blowers_setGrant (l : LaneId) (g : Nat) : (s.setGrant l g).blowers = s.blowers := rfl
@[simp] theorem State.duty_setGrant (l : LaneId) (g : Nat) : (s.setGrant l g).duty = s.duty := rfl
@[simp] theorem State.online_setGrant (l : LaneId) (g : Nat) : (s.setGrant l g).online = s.online := rfl
@[simp] theorem State.header_setGrant (l : LaneId) (g : Nat) : (s.setGrant l g).header = s.header := rfl
@[simp] theorem State.budget_setGrant (l : LaneId) (g : Nat) : (s.setGrant l g).budget = s.budget := rfl
@[simp] theorem State.trains_setGrant (l : LaneId) (g : Nat) : (s.setGrant l g).trains = s.trains := rfl
@[simp] theorem State.plant_setGrant (l : LaneId) (g : Nat) : (s.setGrant l g).plant = s.plant := rfl
@[simp] theorem State.alarm_setGrant (l : LaneId) (g : Nat) : (s.setGrant l g).alarm = s.alarm := rfl
@[simp] theorem State.channels_setGrant (l : LaneId) (g : Nat) : (s.setGrant l g).channels = s.channels := rfl
@[simp] theorem State.lane_setGrant (l : LaneId) (g : Nat) (l' : LaneId) : (s.setGrant l g).lane l' = s.lane l' := rfl
@[simp] theorem State.blower_setGrant (l : LaneId) (g : Nat) (b' : BlowerId) : (s.setGrant l g).blower b' = s.blower b' := rfl
@[simp] theorem State.train_setGrant (l : LaneId) (g : Nat) (t' : TrainId) : (s.setGrant l g).train t' = s.train t' := rfl
@[simp] theorem State.hub_setGrant (l : LaneId) (g : Nat) (h' : HubId) : (s.setGrant l g).hub h' = s.hub h' := rfl
@[simp] theorem State.point_setGrant (l : LaneId) (g : Nat) (p' : PointId) : (s.setGrant l g).point p' = s.point p' := rfl
@[simp] theorem State.slot_setGrant (l : LaneId) (g : Nat) (q' : SlotId) : (s.setGrant l g).slot q' = s.slot q' := rfl
@[simp] theorem State.channel_setGrant (l : LaneId) (g : Nat) (k' : ChannelId) : (s.setGrant l g).channel k' = s.channel k' := rfl
@[simp] theorem State.entry_setGrant (l : LaneId) (g : Nat) (e' : AlarmId) : (s.setGrant l g).entry e' = s.entry e' := rfl

/-! ### notify -/

@[simp] theorem State.pending_notify (src : Source) (c : Cause) : (s.notify src c).pending = s.pending := rfl
@[simp] theorem State.held_notify (src : Source) (c : Cause) : (s.notify src c).held = s.held := rfl
@[simp] theorem State.restarting_notify (src : Source) (c : Cause) : (s.notify src c).restarting = s.restarting := rfl
@[simp] theorem State.baud_notify (src : Source) (c : Cause) : (s.notify src c).baud = s.baud := rfl
@[simp] theorem State.rx_notify (src : Source) (c : Cause) : (s.notify src c).rx = s.rx := rfl
@[simp] theorem State.reply_notify (src : Source) (c : Cause) : (s.notify src c).reply = s.reply := rfl
@[simp] theorem State.attn_notify (src : Source) (c : Cause) : (s.notify src c).attn = s.attn := rfl
@[simp] theorem State.frameCount_notify (src : Source) (c : Cause) : (s.notify src c).frameCount = s.frameCount := rfl
@[simp] theorem State.uptime_notify (src : Source) (c : Cause) : (s.notify src c).uptime = s.uptime := rfl
@[simp] theorem State.outbound_notify (src : Source) (c : Cause) : (s.notify src c).outbound = s.outbound := rfl
@[simp] theorem State.hubs_notify (src : Source) (c : Cause) : (s.notify src c).hubs = s.hubs := rfl
@[simp] theorem State.service_notify (src : Source) (c : Cause) : (s.notify src c).service = s.service := rfl
@[simp] theorem State.points_notify (src : Source) (c : Cause) : (s.notify src c).points = s.points := rfl
@[simp] theorem State.slots_notify (src : Source) (c : Cause) : (s.notify src c).slots = s.slots := rfl
@[simp] theorem State.lanes_notify (src : Source) (c : Cause) : (s.notify src c).lanes = s.lanes := rfl
@[simp] theorem State.air_notify (src : Source) (c : Cause) : (s.notify src c).air = s.air := rfl
@[simp] theorem State.blowers_notify (src : Source) (c : Cause) : (s.notify src c).blowers = s.blowers := rfl
@[simp] theorem State.duty_notify (src : Source) (c : Cause) : (s.notify src c).duty = s.duty := rfl
@[simp] theorem State.online_notify (src : Source) (c : Cause) : (s.notify src c).online = s.online := rfl
@[simp] theorem State.header_notify (src : Source) (c : Cause) : (s.notify src c).header = s.header := rfl
@[simp] theorem State.budget_notify (src : Source) (c : Cause) : (s.notify src c).budget = s.budget := rfl
@[simp] theorem State.trains_notify (src : Source) (c : Cause) : (s.notify src c).trains = s.trains := rfl
@[simp] theorem State.plant_notify (src : Source) (c : Cause) : (s.notify src c).plant = s.plant := rfl
@[simp] theorem State.alarm_notify (src : Source) (c : Cause) : (s.notify src c).alarm = s.alarm := rfl
@[simp] theorem State.channels_notify (src : Source) (c : Cause) : (s.notify src c).channels = s.channels := rfl
@[simp] theorem State.lane_notify (src : Source) (c : Cause) (l' : LaneId) : (s.notify src c).lane l' = s.lane l' := rfl
@[simp] theorem State.blower_notify (src : Source) (c : Cause) (b' : BlowerId) : (s.notify src c).blower b' = s.blower b' := rfl
@[simp] theorem State.train_notify (src : Source) (c : Cause) (t' : TrainId) : (s.notify src c).train t' = s.train t' := rfl
@[simp] theorem State.hub_notify (src : Source) (c : Cause) (h' : HubId) : (s.notify src c).hub h' = s.hub h' := rfl
@[simp] theorem State.point_notify (src : Source) (c : Cause) (p' : PointId) : (s.notify src c).point p' = s.point p' := rfl
@[simp] theorem State.slot_notify (src : Source) (c : Cause) (q' : SlotId) : (s.notify src c).slot q' = s.slot q' := rfl
@[simp] theorem State.channel_notify (src : Source) (c : Cause) (k' : ChannelId) : (s.notify src c).channel k' = s.channel k' := rfl
@[simp] theorem State.entry_notify (src : Source) (c : Cause) (e' : AlarmId) : (s.notify src c).entry e' = s.entry e' := rfl
@[simp] theorem State.grant_notify (src : Source) (c : Cause) (l' : LaneId) : (s.notify src c).grant l' = s.grant l' := rfl

/-! ### Reading back what was written -/

@[simp] theorem State.lane_setLane_same (i : LaneId) (r : Lane) : (s.setLane i r).lane i = r := by
  simp [State.lane, State.setLane]

theorem State.lane_setLane_other (i j : LaneId) (r : Lane) (h : j ≠ i) : (s.setLane i r).lane j = s.lane j := by
  have h' : (i : Nat) ≠ j := fun e => h (Fin.ext e.symm)
  simp [State.lane, State.setLane, Vector.getElem_set_ne, h']

@[simp] theorem State.blower_setBlower_same (i : BlowerId) (r : Blower) : (s.setBlower i r).blower i = r := by
  simp [State.blower, State.setBlower]

theorem State.blower_setBlower_other (i j : BlowerId) (r : Blower) (h : j ≠ i) : (s.setBlower i r).blower j = s.blower j := by
  have h' : (i : Nat) ≠ j := fun e => h (Fin.ext e.symm)
  simp [State.blower, State.setBlower, Vector.getElem_set_ne, h']

@[simp] theorem State.train_setTrain_same (i : TrainId) (r : Train) : (s.setTrain i r).train i = r := by
  simp [State.train, State.setTrain]

theorem State.train_setTrain_other (i j : TrainId) (r : Train) (h : j ≠ i) : (s.setTrain i r).train j = s.train j := by
  have h' : (i : Nat) ≠ j := fun e => h (Fin.ext e.symm)
  simp [State.train, State.setTrain, Vector.getElem_set_ne, h']

@[simp] theorem State.hub_setHub_same (i : HubId) (r : Hub) : (s.setHub i r).hub i = r := by
  simp [State.hub, State.setHub]

theorem State.hub_setHub_other (i j : HubId) (r : Hub) (h : j ≠ i) : (s.setHub i r).hub j = s.hub j := by
  have h' : (i : Nat) ≠ j := fun e => h (Fin.ext e.symm)
  simp [State.hub, State.setHub, Vector.getElem_set_ne, h']

@[simp] theorem State.point_setPoint_same (i : PointId) (r : Point) : (s.setPoint i r).point i = r := by
  simp [State.point, State.setPoint]

theorem State.point_setPoint_other (i j : PointId) (r : Point) (h : j ≠ i) : (s.setPoint i r).point j = s.point j := by
  have h' : (i : Nat) ≠ j := fun e => h (Fin.ext e.symm)
  simp [State.point, State.setPoint, Vector.getElem_set_ne, h']

@[simp] theorem State.slot_setSlot_same (i : SlotId) (r : Slot) : (s.setSlot i r).slot i = r := by
  simp [State.slot, State.setSlot]

theorem State.slot_setSlot_other (i j : SlotId) (r : Slot) (h : j ≠ i) : (s.setSlot i r).slot j = s.slot j := by
  have h' : (i : Nat) ≠ j := fun e => h (Fin.ext e.symm)
  simp [State.slot, State.setSlot, Vector.getElem_set_ne, h']

@[simp] theorem State.channel_setChannel_same (i : ChannelId) (r : Channel) : (s.setChannel i r).channel i = r := by
  simp [State.channel, State.setChannel]

theorem State.channel_setChannel_other (i j : ChannelId) (r : Channel) (h : j ≠ i) : (s.setChannel i r).channel j = s.channel j := by
  have h' : (i : Nat) ≠ j := fun e => h (Fin.ext e.symm)
  simp [State.channel, State.setChannel, Vector.getElem_set_ne, h']

@[simp] theorem State.entry_setEntry_same (i : AlarmId) (r : Entry) : (s.setEntry i r).entry i = r := by
  simp [State.entry, State.setEntry]

theorem State.entry_setEntry_other (i j : AlarmId) (r : Entry) (h : j ≠ i) : (s.setEntry i r).entry j = s.entry j := by
  have h' : (i : Nat) ≠ j := fun e => h (Fin.ext e.symm)
  simp [State.entry, State.setEntry, Vector.getElem_set_ne, h']

@[simp] theorem State.grant_setGrant_same (l : LaneId) (g : Nat) : (s.setGrant l g).grant l = g := by
  simp [State.grant, State.setGrant]

@[simp] theorem State.budget_setBudget (u : Budget) : (s.setBudget u).budget = u := rfl
@[simp] theorem State.header_setHeader (h : Header) : (s.setHeader h).header = h := rfl
@[simp] theorem State.plant_setPlant (p : Plant) : (s.setPlant p).plant = p := rfl

end Sys2Proof.Machine
end

