-- ==== Sys2Proof/Laws/Air.lean ====
section
/-! SUPPORT. The allocator's records after a claim follow from the allocator's records before it, the air priorities in force
and the uptime: what a lane's adoption, the alarms and the slots are makes no difference to them. -/

namespace Sys2Proof.Machine

/-- Two states that the allocator cannot tell apart. -/
def SameAir (s t : State) : Prop :=
  s.air = t.air ∧ s.uptime = t.uptime ∧ s.airPriority = t.airPriority

theorem SameAir.refl (s : State) : SameAir s s := ⟨rfl, rfl, rfl⟩

theorem SameAir.symm {s t : State} (h : SameAir s t) : SameAir t s := ⟨h.1.symm, h.2.1.symm, h.2.2.symm⟩

theorem SameAir.trans {s t u : State} (h : SameAir s t) (h' : SameAir t u) : SameAir s u :=
  ⟨h.1.trans h'.1, h.2.1.trans h'.2.1, h.2.2.trans h'.2.2⟩

theorem SameAir.record (s : State) (e : AlarmId) (tr : Transition) : SameAir (s.record e tr) s := by
  unfold State.record
  dsimp only
  repeat' (first | exact ⟨rfl, rfl, rfl⟩ | split)

theorem SameAir.raise (s : State) (e : AlarmId) : SameAir (s.raise e) s :=
  SameAir.trans (u := s) (t := (s.setEntry e _).record e .raised) ⟨rfl, rfl, rfl⟩ (SameAir.record _ e .raised)

theorem SameAir.clearingEnds (s : State) (e : AlarmId) : SameAir (s.clearingEnds e) s := by
  unfold State.clearingEnds
  dsimp only
  split
  · exact SameAir.record _ e .returned
  · exact SameAir.record _ e .returned
  · exact .refl s

theorem SameAir.startOnDelay (s : State) (e : AlarmId) : SameAir (s.startOnDelay e) s := by
  unfold State.startOnDelay
  dsimp only
  split
  · exact .raise s e
  · exact ⟨rfl, rfl, rfl⟩

theorem SameAir.actOn (s : State) (e : AlarmId) : SameAir (s.actOn e) s := by
  unfold State.actOn
  dsimp only
  repeat' (first
    | exact .raise s e | exact .startOnDelay s e | exact .clearingEnds s e | exact ⟨rfl, rfl, rfl⟩ | split)

/-- A posted condition is none of the allocator's. -/
theorem SameAir.post (s : State) (e : AlarmId) (v : Bool) : SameAir (s.post e v) s := by
  unfold State.post
  dsimp only
  split
  · exact .refl s
  · exact (SameAir.actOn _ e).trans ⟨rfl, rfl, rfl⟩

/-- Nor is a lane's record changed at the same priority. -/
theorem SameAir.setLane (s : State) (l : LaneId) (r : Lane) (h : r.airPriority = (s.lane l).airPriority) :
    SameAir (s.setLane l r) s := by
  refine ⟨rfl, rfl, funext fun x => ?_⟩
  by_cases hx : x = l
  · subst hx; simpa [State.airPriority, State.lane, State.setLane] using h
  · have : x.val ≠ l.val := fun e => hx (Fin.ext e)
    simp [State.airPriority, State.lane, State.setLane, this.symm]

theorem SameAir.updateSlot (s : State) (q : Nat) (f : Slot → Slot) : SameAir (s.updateSlot q f) s := by
  unfold State.updateSlot
  split <;> exact ⟨rfl, rfl, rfl⟩

theorem SameAir.writeValve (s : State) (l : LaneId) (v : Nat) : SameAir (s.writeValve l v) s := by
  unfold State.writeValve
  split
  · exact .updateSlot ..
  · exact .refl s

/-- A completed adoption leaves the allocator's records as they are. -/
theorem SameAir.completeAdoption (s : State) (l : LaneId) : SameAir (s.completeAdoption l) s := by
  unfold State.completeAdoption
  dsimp only
  split
  · split
    · exact (SameAir.writeValve _ l _).trans (SameAir.setLane s l _ rfl)
    · exact .refl s
  · exact .refl s

variable {s t : State}

theorem SameAir.with_air (h : SameAir s t) (f : Air → Air) : SameAir { s with air := f s.air } { t with air := f t.air } :=
  ⟨congrArg f h.1, h.2.1, h.2.2⟩

/-- A condition posted on two states that the allocator cannot tell apart. -/
theorem SameAir.post_both (h : SameAir s t) (e : AlarmId) (v : Bool) : SameAir (s.post e v) (t.post e v) :=
  ((SameAir.post s e v).trans h).trans (SameAir.post t e v).symm

theorem SameAir.setGrant (h : SameAir s t) (l : LaneId) (g : Nat) : SameAir (s.setGrant l g) (t.setGrant l g) :=
  h.with_air fun a => { a with grants := a.grants.set l g }

theorem SameAir.mapEntry (h : SameAir s t) (l : LaneId) (f : AirEntry → AirEntry) :
    SameAir (s.mapEntry l f) (t.mapEntry l f) :=
  h.with_air fun a => { a with queue := a.queue.map (fun e => if e.lane = l then f e else e) }

theorem SameAir.dropEntry (h : SameAir s t) (l : LaneId) : SameAir (s.dropEntry l) (t.dropEntry l) := by
  unfold State.dropEntry
  rw [h.1]
  cases t.air.entryOf l with
  | none => exact h
  | some e =>
    have h' := h.with_air fun a => { a with queue := a.queue.filter (fun x => x.lane ≠ l) }
    dsimp only
    split
    · simpa only [h.1] using h'.post_both (starvedEntry l) false
    · simpa only [h.1] using h'

theorem SameAir.serveSteps (fuel : Nat) : ∀ {s t : State}, SameAir s t → SameAir (s.serveSteps fuel) (t.serveSteps fuel) := by
  induction fuel with
  | zero => intro s t h; exact h
  | succ fuel ih =>
    intro s t h
    unfold State.serveSteps
    rw [h.1]
    cases t.air.queue with
    | nil => exact h
    | cons e rest =>
      dsimp only
      have grant : s.grant e.lane = t.grant e.lane := by simp only [State.grant, h.1]
      rw [grant]
      split
      · apply ih
        refine ((SameAir.completeAdoption _ _).trans ?_).trans (SameAir.completeAdoption _ _).symm
        have h' := h.setGrant e.lane (t.grant e.lane + min e.amount t.air.available)
        split
        · exact h'.dropEntry _
        · exact h'.with_air fun a => { a with queue := { e with amount := e.amount - min e.amount t.air.available } :: rest }
      · exact h

theorem SameAir.serve (h : SameAir s t) : SameAir s.serve t.serve := by
  unfold State.serve
  rw [h.1]
  exact h.serveSteps _

theorem SameAir.testDeficit (h : SameAir s t) : SameAir s.testDeficit t.testDeficit := by
  unfold State.testDeficit
  rw [h.1]
  split
  · simpa only [h.1] using (h.with_air fun a => { a with short := false }).post_both airShortEntry false
  · exact h

theorem SameAir.settleAir (h : SameAir s t) : SameAir s.settleAir t.settleAir :=
  (h.testDeficit.with_air (Air.retime false false)).serve

/-- A withdrawal claim depends on the allocator's own records alone (R49). -/
theorem SameAir.withdraw (h : SameAir s t) (l : LaneId) : SameAir (s.withdraw l) (t.withdraw l) := by
  unfold State.withdraw
  rw [h.1]
  split
  · exact (h.dropEntry l).settleAir
  · exact h

/-- So does an increase request, with the air priorities in force and the uptime (R48). -/
theorem SameAir.requestAir (h : SameAir s t) (l : LaneId) (n : Nat) : SameAir (s.requestAir l n) (t.requestAir l n) := by
  unfold State.requestAir
  split
  · exact h.withdraw l
  · apply SameAir.settleAir
    rw [h.1, h.2.1, h.2.2]
    split
    · exact h.mapEntry l _
    · exact ⟨rfl, rfl, h.2.2⟩

end Sys2Proof.Machine
end

