-- ==== Sys2Proof/Laws/Frame.lean ====
section
/-! SUPPORT. What every shared operation leaves unchanged: each keeps the relation of its block, from any state that the
relation has reached. A proof about a command chains these from the front, `OnlyAir.serve (OnlyAir.setLane h ..)`. -/

namespace Sys2Proof.Machine

theorem forAll_keeps {α : Type} {P : State → Prop} (f : α → State → State) (step : ∀ x t, P t → P (f x t)) :
    ∀ (xs : List α) (t : State), P t → P (forAll xs f t)
  | [], _, h => h
  | x :: xs, t, h => forAll_keeps f step xs (f x t) (step x t h)

theorem OnlyAlarms.refl (s : State) : OnlyAlarms s s := rfl

theorem OnlyAlarms.trans {s t u : State} (h : OnlyAlarms s t) (h' : OnlyAlarms t u) : OnlyAlarms s u := by
  unfold OnlyAlarms at *; rw [h', h]

theorem OnlyAlarms.with_reply {s t : State} (h : OnlyAlarms s t) (x : Option Reply) :
    OnlyAlarms s { t with reply := x } :=
  h.trans rfl

theorem OnlyAlarms.with_rx {s t : State} (h : OnlyAlarms s t) (x : List Byte) : OnlyAlarms s { t with rx := x } := h.trans rfl

theorem OnlyAlarms.with_attn {s t : State} (h : OnlyAlarms s t) (x : Bool) : OnlyAlarms s { t with attn := x } :=
  h.trans rfl

theorem OnlyAlarms.with_notices {s t : State} (h : OnlyAlarms s t) (x : List Notice) :
    OnlyAlarms s { t with notices := x } :=
  h.trans rfl

theorem OnlyAlarms.with_alarm {s t : State} (h : OnlyAlarms s t) (x : AlarmUnit) :
    OnlyAlarms s { t with alarm := x } :=
  h.trans rfl

theorem OnlyAlarms.with_channels {s t : State} (h : OnlyAlarms s t) (x : Vector Channel 4) :
    OnlyAlarms s { t with channels := x } :=
  h.trans rfl

theorem OnlyAlarms.forAll {α : Type} {s t : State} {f : α → State → State} {xs : List α} (h : OnlyAlarms s t)
    (step : ∀ x u, OnlyAlarms s u → OnlyAlarms s (f x u)) : OnlyAlarms s (Machine.forAll xs f t) :=
  forAll_keeps f step xs t h

theorem OnlyAir.refl (s : State) : OnlyAir s s := rfl

theorem OnlyAir.trans {s t u : State} (h : OnlyAir s t) (h' : OnlyAir t u) : OnlyAir s u := by
  unfold OnlyAir at *; rw [h', h]

theorem OnlyAir.with_reply {s t : State} (h : OnlyAir s t) (x : Option Reply) : OnlyAir s { t with reply := x } :=
  h.trans rfl

theorem OnlyAir.with_rx {s t : State} (h : OnlyAir s t) (x : List Byte) : OnlyAir s { t with rx := x } := h.trans rfl

theorem OnlyAir.with_attn {s t : State} (h : OnlyAir s t) (x : Bool) : OnlyAir s { t with attn := x } := h.trans rfl

theorem OnlyAir.with_notices {s t : State} (h : OnlyAir s t) (x : List Notice) : OnlyAir s { t with notices := x } :=
  h.trans rfl

theorem OnlyAir.with_alarm {s t : State} (h : OnlyAir s t) (x : AlarmUnit) : OnlyAir s { t with alarm := x } :=
  h.trans rfl

theorem OnlyAir.with_channels {s t : State} (h : OnlyAir s t) (x : Vector Channel 4) :
    OnlyAir s { t with channels := x } :=
  h.trans rfl

theorem OnlyAir.with_lanes {s t : State} (h : OnlyAir s t) (x : Vector Lane 12) : OnlyAir s { t with lanes := x } :=
  h.trans rfl

theorem OnlyAir.with_air {s t : State} (h : OnlyAir s t) (x : Air) : OnlyAir s { t with air := x } := h.trans rfl

theorem OnlyAir.with_slots {s t : State} (h : OnlyAir s t) (x : Vector Slot 48) : OnlyAir s { t with slots := x } :=
  h.trans rfl

theorem OnlyAir.forAll {α : Type} {s t : State} {f : α → State → State} {xs : List α} (h : OnlyAir s t)
    (step : ∀ x u, OnlyAir s u → OnlyAir s (f x u)) : OnlyAir s (Machine.forAll xs f t) := forAll_keeps f step xs t h

theorem OnlyPower.refl (s : State) : OnlyPower s s := rfl

theorem OnlyPower.trans {s t u : State} (h : OnlyPower s t) (h' : OnlyPower t u) : OnlyPower s u := by
  unfold OnlyPower at *; rw [h', h]

theorem OnlyPower.with_reply {s t : State} (h : OnlyPower s t) (x : Option Reply) :
    OnlyPower s { t with reply := x } :=
  h.trans rfl

theorem OnlyPower.with_rx {s t : State} (h : OnlyPower s t) (x : List Byte) : OnlyPower s { t with rx := x } := h.trans rfl

theorem OnlyPower.with_attn {s t : State} (h : OnlyPower s t) (x : Bool) : OnlyPower s { t with attn := x } :=
  h.trans rfl

theorem OnlyPower.with_notices {s t : State} (h : OnlyPower s t) (x : List Notice) :
    OnlyPower s { t with notices := x } :=
  h.trans rfl

theorem OnlyPower.with_alarm {s t : State} (h : OnlyPower s t) (x : AlarmUnit) : OnlyPower s { t with alarm := x } :=
  h.trans rfl

theorem OnlyPower.with_channels {s t : State} (h : OnlyPower s t) (x : Vector Channel 4) :
    OnlyPower s { t with channels := x } :=
  h.trans rfl

theorem OnlyPower.with_slots {s t : State} (h : OnlyPower s t) (x : Vector Slot 48) :
    OnlyPower s { t with slots := x } :=
  h.trans rfl

theorem OnlyPower.with_budget {s t : State} (h : OnlyPower s t) (x : Budget) : OnlyPower s { t with budget := x } :=
  h.trans rfl

theorem OnlyPower.with_blowers {s t : State} (h : OnlyPower s t) (x : Vector Blower 6) :
    OnlyPower s { t with blowers := x } :=
  h.trans rfl

theorem OnlyPower.with_trains {s t : State} (h : OnlyPower s t) (x : Vector Train 4) :
    OnlyPower s { t with trains := x } :=
  h.trans rfl

theorem OnlyPower.with_plant {s t : State} (h : OnlyPower s t) (x : Plant) : OnlyPower s { t with plant := x } :=
  h.trans rfl

theorem OnlyPower.forAll {α : Type} {s t : State} {f : α → State → State} {xs : List α} (h : OnlyPower s t)
    (step : ∀ x u, OnlyPower s u → OnlyPower s (f x u)) : OnlyPower s (Machine.forAll xs f t) :=
  forAll_keeps f step xs t h

theorem OnlyControl.refl (s : State) : OnlyControl s s := rfl

theorem OnlyControl.trans {s t u : State} (h : OnlyControl s t) (h' : OnlyControl t u) : OnlyControl s u := by
  unfold OnlyControl at *; rw [h', h]

theorem OnlyControl.with_reply {s t : State} (h : OnlyControl s t) (x : Option Reply) :
    OnlyControl s { t with reply := x } :=
  h.trans rfl

theorem OnlyControl.with_rx {s t : State} (h : OnlyControl s t) (x : List Byte) : OnlyControl s { t with rx := x } := h.trans rfl

theorem OnlyControl.with_attn {s t : State} (h : OnlyControl s t) (x : Bool) : OnlyControl s { t with attn := x } :=
  h.trans rfl

theorem OnlyControl.with_notices {s t : State} (h : OnlyControl s t) (x : List Notice) :
    OnlyControl s { t with notices := x } :=
  h.trans rfl

theorem OnlyControl.with_alarm {s t : State} (h : OnlyControl s t) (x : AlarmUnit) :
    OnlyControl s { t with alarm := x } :=
  h.trans rfl

theorem OnlyControl.with_channels {s t : State} (h : OnlyControl s t) (x : Vector Channel 4) :
    OnlyControl s { t with channels := x } :=
  h.trans rfl

theorem OnlyControl.with_slots {s t : State} (h : OnlyControl s t) (x : Vector Slot 48) :
    OnlyControl s { t with slots := x } :=
  h.trans rfl

theorem OnlyControl.with_lanes {s t : State} (h : OnlyControl s t) (x : Vector Lane 12) :
    OnlyControl s { t with lanes := x } :=
  h.trans rfl

theorem OnlyControl.with_air {s t : State} (h : OnlyControl s t) (x : Air) : OnlyControl s { t with air := x } :=
  h.trans rfl

theorem OnlyControl.with_blowers {s t : State} (h : OnlyControl s t) (x : Vector Blower 6) :
    OnlyControl s { t with blowers := x } :=
  h.trans rfl

theorem OnlyControl.with_online {s t : State} (h : OnlyControl s t) (x : List BlowerId) :
    OnlyControl s { t with online := x } :=
  h.trans rfl

theorem OnlyControl.with_header {s t : State} (h : OnlyControl s t) (x : Header) :
    OnlyControl s { t with header := x } :=
  h.trans rfl

theorem OnlyControl.with_budget {s t : State} (h : OnlyControl s t) (x : Budget) :
    OnlyControl s { t with budget := x } :=
  h.trans rfl

theorem OnlyControl.with_trains {s t : State} (h : OnlyControl s t) (x : Vector Train 4) :
    OnlyControl s { t with trains := x } :=
  h.trans rfl

theorem OnlyControl.with_plant {s t : State} (h : OnlyControl s t) (x : Plant) :
    OnlyControl s { t with plant := x } :=
  h.trans rfl

theorem OnlyControl.forAll {α : Type} {s t : State} {f : α → State → State} {xs : List α} (h : OnlyControl s t)
    (step : ∀ x u, OnlyControl s u → OnlyControl s (f x u)) : OnlyControl s (Machine.forAll xs f t) :=
  forAll_keeps f step xs t h

theorem OnlyAlarms.air {s t : State} (h : OnlyAlarms s t) : OnlyAir s t := by
  unfold OnlyAlarms at h; unfold OnlyAir; rw [h]

theorem OnlyAlarms.power {s t : State} (h : OnlyAlarms s t) : OnlyPower s t := by
  unfold OnlyAlarms at h; unfold OnlyPower; rw [h]

theorem OnlyAlarms.control {s t : State} (h : OnlyAlarms s t) : OnlyControl s t := by
  unfold OnlyAlarms at h; unfold OnlyControl; rw [h]

theorem OnlyAir.control {s t : State} (h : OnlyAir s t) : OnlyControl s t := by
  unfold OnlyAir at h; unfold OnlyControl; rw [h]

theorem OnlyPower.control {s t : State} (h : OnlyPower s t) : OnlyControl s t := by
  unfold OnlyPower at h; unfold OnlyControl; rw [h]

theorem OnlyAlarms.setEntry {s t : State} (h : OnlyAlarms s t) (e : AlarmId) (r : Entry) :
    OnlyAlarms s (State.setEntry t e r) := h.trans rfl

theorem OnlyAlarms.notify {s t : State} (h : OnlyAlarms s t) (src : Source) (c : Cause) :
    OnlyAlarms s (State.notify t src c) := h.trans rfl

theorem OnlyAlarms.record {s t : State} (h : OnlyAlarms s t) (e : AlarmId) (tr : Transition) :
    OnlyAlarms s (State.record t e tr) := by
  unfold State.record
  try dsimp only
  repeat' (first
    | (with_reducible exact h) | (with_reducible apply OnlyAlarms.notify) | split
    | (with_reducible apply OnlyAlarms.with_alarm))

theorem OnlyAlarms.presentTrigger {s t : State} (h : OnlyAlarms s t) (src : TriggerSource) (concerns : Channel → Bool) :
    OnlyAlarms s (State.presentTrigger t src concerns) :=
  h.trans rfl

theorem OnlyAlarms.raise {s t : State} (h : OnlyAlarms s t) (e : AlarmId) :
    OnlyAlarms s (State.raise t e) := by
  unfold State.raise
  try dsimp only
  repeat' (first
    | (with_reducible exact h) | (with_reducible apply OnlyAlarms.record)
    | (with_reducible apply OnlyAlarms.setEntry) | (with_reducible apply OnlyAlarms.notify)
    | (with_reducible apply OnlyAlarms.presentTrigger))

theorem OnlyAlarms.clearingEnds {s t : State} (h : OnlyAlarms s t) (e : AlarmId) :
    OnlyAlarms s (State.clearingEnds t e) := by
  unfold State.clearingEnds
  try dsimp only
  repeat' (first
    | (with_reducible exact h) | (with_reducible apply OnlyAlarms.record)
    | (with_reducible apply OnlyAlarms.setEntry) | split)

theorem OnlyAlarms.startOnDelay {s t : State} (h : OnlyAlarms s t) (e : AlarmId) :
    OnlyAlarms s (State.startOnDelay t e) := by
  unfold State.startOnDelay
  try dsimp only
  repeat' (first
    | (with_reducible exact h) | (with_reducible apply OnlyAlarms.raise)
    | (with_reducible apply OnlyAlarms.setEntry) | split)

theorem OnlyAlarms.actOn {s t : State} (h : OnlyAlarms s t) (e : AlarmId) :
    OnlyAlarms s (State.actOn t e) := by
  unfold State.actOn
  try dsimp only
  repeat' (first
    | (with_reducible exact h) | (with_reducible apply OnlyAlarms.raise)
    | (with_reducible apply OnlyAlarms.clearingEnds) | (with_reducible apply OnlyAlarms.startOnDelay)
    | (with_reducible apply OnlyAlarms.setEntry) | split)

theorem OnlyAlarms.post {s t : State} (h : OnlyAlarms s t) (e : AlarmId) (v : Bool) :
    OnlyAlarms s (State.post t e v) := by
  unfold State.post
  try dsimp only
  repeat' (first
    | (with_reducible exact h) | (with_reducible apply OnlyAlarms.actOn)
    | (with_reducible apply OnlyAlarms.setEntry) | split)

theorem OnlyAlarms.unsuppress {s t : State} (h : OnlyAlarms s t) (e : AlarmId) :
    OnlyAlarms s (State.unsuppress t e) := by
  unfold State.unsuppress
  try dsimp only
  repeat' (first
    | (with_reducible exact h) | (with_reducible apply OnlyAlarms.startOnDelay)
    | (with_reducible apply OnlyAlarms.setEntry) | split)

theorem OnlyAlarms.flagEntries {s t : State} (h : OnlyAlarms s t) (es : List AlarmId) (v : Bool) :
    OnlyAlarms s (State.flagEntries t es v) := by
  unfold State.flagEntries
  try dsimp only
  repeat' (first
    | (with_reducible exact h) | (with_reducible apply OnlyAlarms.unsuppress)
    | (with_reducible apply OnlyAlarms.setEntry) | (with_reducible apply OnlyAlarms.forAll) | (intro _ _ h)
    | split)

theorem OnlyAlarms.suppressLane {s t : State} (h : OnlyAlarms s t) (l : LaneId) (v : Bool) :
    OnlyAlarms s (State.suppressLane t l v) := by
  unfold State.suppressLane
  try dsimp only
  repeat' (first
    | (with_reducible exact h) | (with_reducible apply OnlyAlarms.flagEntries) | split
    | (with_reducible apply OnlyAlarms.with_alarm))

theorem OnlyAlarms.suppressBlower {s t : State} (h : OnlyAlarms s t) (b : BlowerId) (v : Bool) :
    OnlyAlarms s (State.suppressBlower t b v) := by
  unfold State.suppressBlower
  try dsimp only
  repeat' (first
    | (with_reducible exact h) | (with_reducible apply OnlyAlarms.flagEntries) | split
    | (with_reducible apply OnlyAlarms.with_alarm))

theorem OnlyAlarms.suppressTrain {s t : State} (h : OnlyAlarms s t) (k : TrainId) (v : Bool) :
    OnlyAlarms s (State.suppressTrain t k v) := by
  unfold State.suppressTrain
  try dsimp only
  repeat' (first
    | (with_reducible exact h) | (with_reducible apply OnlyAlarms.flagEntries) | split
    | (with_reducible apply OnlyAlarms.with_alarm))

theorem OnlyAlarms.shelve {s t : State} (h : OnlyAlarms s t) (e : AlarmId) (time : Nat) :
    OnlyAlarms s (State.shelve t e time) := by
  unfold State.shelve
  try dsimp only
  repeat' (first
    | (with_reducible exact h) | (with_reducible apply OnlyAlarms.record)
    | (with_reducible apply OnlyAlarms.setEntry))

theorem OnlyAlarms.unshelve {s t : State} (h : OnlyAlarms s t) (e : AlarmId) :
    OnlyAlarms s (State.unshelve t e) := by
  unfold State.unshelve
  try dsimp only
  repeat' (first
    | (with_reducible exact h) | (with_reducible apply OnlyAlarms.record)
    | (with_reducible apply OnlyAlarms.raise) | (with_reducible apply OnlyAlarms.setEntry) | split)

theorem OnlyAlarms.escalate {s t : State} (h : OnlyAlarms s t) (e : AlarmId) :
    OnlyAlarms s (State.escalate t e) := by
  unfold State.escalate
  try dsimp only
  repeat' (first
    | (with_reducible exact h) | (with_reducible apply OnlyAlarms.record)
    | (with_reducible apply OnlyAlarms.setEntry) | (with_reducible apply OnlyAlarms.notify))

theorem OnlyAlarms.refresh {s t : State} (h : OnlyAlarms s t) : OnlyAlarms s (State.refresh t) := h.trans rfl

theorem OnlyAlarms.setAlarm {s t : State} (h : OnlyAlarms s t) (e : AlarmId) (priority onDelay offDelay : Nat) :
    OnlyAlarms s (State.setAlarm t e priority onDelay offDelay) := by
  unfold State.setAlarm
  try dsimp only
  repeat' (first
    | (with_reducible exact h) | (with_reducible apply OnlyAlarms.startOnDelay)
    | (with_reducible apply OnlyAlarms.setEntry) | split)

theorem OnlyAlarms.setEscalation {s t : State} (h : OnlyAlarms s t) (time threshold : Nat) :
    OnlyAlarms s (State.setEscalation t time threshold) := by
  unfold State.setEscalation
  try dsimp only
  repeat' (first
    | (with_reducible exact h) | (with_reducible apply OnlyAlarms.with_alarm))

theorem OnlyAlarms.silence {s t : State} (h : OnlyAlarms s t) :
    OnlyAlarms s (State.silence t) := by
  unfold State.silence
  try dsimp only
  repeat' (first
    | (with_reducible exact h) | (with_reducible apply OnlyAlarms.with_alarm))

theorem OnlyAlarms.drainHistory {s t : State} (h : OnlyAlarms s t) (count : Nat) :
    OnlyAlarms s (State.drainHistory t count) := by
  unfold State.drainHistory
  try dsimp only
  repeat' (first
    | (with_reducible exact h) | (with_reducible apply OnlyAlarms.with_alarm))

theorem OnlyAlarms.onDelayEnds {s t : State} (h : OnlyAlarms s t) (e : AlarmId) :
    OnlyAlarms s (State.onDelayEnds t e) := by
  unfold State.onDelayEnds
  try dsimp only
  repeat' (first
    | (with_reducible exact h) | (with_reducible apply OnlyAlarms.raise) | split)

theorem OnlyAlarms.clearingTimerEnds {s t : State} (h : OnlyAlarms s t) (e : AlarmId) :
    OnlyAlarms s (State.clearingTimerEnds t e) := by
  unfold State.clearingTimerEnds
  try dsimp only
  repeat' (first
    | (with_reducible exact h) | (with_reducible apply OnlyAlarms.clearingEnds) | split)

theorem OnlyAlarms.shelfEnds {s t : State} (h : OnlyAlarms s t) (e : AlarmId) :
    OnlyAlarms s (State.shelfEnds t e) := by
  unfold State.shelfEnds
  try dsimp only
  repeat' (first
    | (with_reducible exact h) | (with_reducible apply OnlyAlarms.unshelve) | split)

theorem OnlyAlarms.escalationEnds {s t : State} (h : OnlyAlarms s t) (e : AlarmId) :
    OnlyAlarms s (State.escalationEnds t e) := by
  unfold State.escalationEnds
  try dsimp only
  repeat' (first
    | (with_reducible exact h) | (with_reducible apply OnlyAlarms.escalate) | split)

theorem OnlyAlarms.entrySecond {s t : State} (h : OnlyAlarms s t) (e : AlarmId) :
    OnlyAlarms s (State.entrySecond e t) := by
  unfold State.entrySecond
  try dsimp only
  repeat' (first
    | (with_reducible exact h) | (with_reducible apply OnlyAlarms.onDelayEnds)
    | (with_reducible apply OnlyAlarms.clearingTimerEnds) | (with_reducible apply OnlyAlarms.shelfEnds)
    | (with_reducible apply OnlyAlarms.escalationEnds) | split)

theorem OnlyAlarms.setChannel {s t : State} (h : OnlyAlarms s t) (c : ChannelId) (r : Channel) :
    OnlyAlarms s (State.setChannel t c r) := h.trans rfl

theorem OnlyAir.setSlot {s t : State} (h : OnlyAir s t) (q : SlotId) (r : Slot) :
    OnlyAir s (State.setSlot t q r) := h.trans rfl

theorem OnlyAir.updateSlot {s t : State} (h : OnlyAir s t) (q : Nat) (f : Slot → Slot) :
    OnlyAir s (State.updateSlot t q f) := by
  unfold State.updateSlot
  try dsimp only
  repeat' (first
    | (with_reducible exact h) | (with_reducible apply OnlyAir.setSlot) | split)

theorem OnlyAir.writeSlot {s t : State} (h : OnlyAir s t) (q value : Nat) (valid : Bool) :
    OnlyAir s (State.writeSlot t q value valid) := by
  unfold State.writeSlot
  try dsimp only
  repeat' (first
    | (with_reducible exact h) | (with_reducible apply OnlyAir.updateSlot))

theorem OnlyAir.invalidateSlot {s t : State} (h : OnlyAir s t) (q : Nat) :
    OnlyAir s (State.invalidateSlot t q) := by
  unfold State.invalidateSlot
  try dsimp only
  repeat' (first
    | (with_reducible exact h) | (with_reducible apply OnlyAir.updateSlot))

theorem OnlyAir.releaseSlot {s t : State} (h : OnlyAir s t) (q : Nat) :
    OnlyAir s (State.releaseSlot t q) := by
  unfold State.releaseSlot
  try dsimp only
  repeat' (first
    | (with_reducible exact h) | (with_reducible apply OnlyAir.updateSlot))

theorem OnlyAir.claimSlot {s t : State} (h : OnlyAir s t) (q : Nat) (c : Claimant) :
    OnlyAir s (State.claimSlot t q c) := by
  unfold State.claimSlot
  try dsimp only
  repeat' (first
    | (with_reducible exact h) | (with_reducible apply OnlyAir.updateSlot))

theorem OnlyAir.setLane {s t : State} (h : OnlyAir s t) (l : LaneId) (r : Lane) :
    OnlyAir s (State.setLane t l r) := h.trans rfl

theorem OnlyAir.writeValve {s t : State} (h : OnlyAir s t) (l : LaneId) (value : Nat) :
    OnlyAir s (State.writeValve t l value) := by
  unfold State.writeValve
  try dsimp only
  repeat' (first
    | (with_reducible exact h) | (with_reducible apply OnlyAir.writeSlot) | split)

theorem OnlyAir.dropValve {s t : State} (h : OnlyAir s t) (l : LaneId) :
    OnlyAir s (State.dropValve t l) := by
  unfold State.dropValve
  try dsimp only
  repeat' (first
    | (with_reducible exact h) | (with_reducible apply OnlyAir.invalidateSlot) | split)

theorem OnlyAir.completeAdoption {s t : State} (h : OnlyAir s t) (l : LaneId) :
    OnlyAir s (State.completeAdoption t l) := by
  unfold State.completeAdoption
  try dsimp only
  repeat' (first
    | (with_reducible exact h) | (with_reducible apply OnlyAir.setLane)
    | (with_reducible apply OnlyAir.writeValve) | split)

theorem OnlyAir.retime {s t : State} (h : OnlyAir s t) (restartShortfall restartSurplus : Bool) :
    OnlyAir s (State.retime t restartShortfall restartSurplus) := by
  unfold State.retime
  try dsimp only
  repeat' (first
    | (with_reducible exact h) | (with_reducible apply OnlyAir.with_air))

theorem OnlyAir.notify {s t : State} (h : OnlyAir s t) (src : Source) (c : Cause) :
    OnlyAir s (State.notify t src c) :=
  h.trans (OnlyAlarms.notify (.refl t) src c).air

theorem OnlyAir.record {s t : State} (h : OnlyAir s t) (e : AlarmId) (tr : Transition) :
    OnlyAir s (State.record t e tr) :=
  h.trans (OnlyAlarms.record (.refl t) e tr).air

theorem OnlyAir.setEntry {s t : State} (h : OnlyAir s t) (e : AlarmId) (r : Entry) :
    OnlyAir s (State.setEntry t e r) :=
  h.trans (OnlyAlarms.setEntry (.refl t) e r).air

theorem OnlyAir.presentTrigger {s t : State} (h : OnlyAir s t) (src : TriggerSource) (concerns : Channel → Bool) :
    OnlyAir s (State.presentTrigger t src concerns) :=
  h.trans (OnlyAlarms.presentTrigger (.refl t) src concerns).air

theorem OnlyAir.raise {s t : State} (h : OnlyAir s t) (e : AlarmId) : OnlyAir s (State.raise t e) :=
  h.trans (OnlyAlarms.raise (.refl t) e).air

theorem OnlyAir.clearingEnds {s t : State} (h : OnlyAir s t) (e : AlarmId) : OnlyAir s (State.clearingEnds t e) :=
  h.trans (OnlyAlarms.clearingEnds (.refl t) e).air

theorem OnlyAir.startOnDelay {s t : State} (h : OnlyAir s t) (e : AlarmId) : OnlyAir s (State.startOnDelay t e) :=
  h.trans (OnlyAlarms.startOnDelay (.refl t) e).air

theorem OnlyAir.actOn {s t : State} (h : OnlyAir s t) (e : AlarmId) : OnlyAir s (State.actOn t e) :=
  h.trans (OnlyAlarms.actOn (.refl t) e).air

theorem OnlyAir.post {s t : State} (h : OnlyAir s t) (e : AlarmId) (v : Bool) : OnlyAir s (State.post t e v) :=
  h.trans (OnlyAlarms.post (.refl t) e v).air

theorem OnlyAir.testDeficit {s t : State} (h : OnlyAir s t) :
    OnlyAir s (State.testDeficit t) := by
  unfold State.testDeficit
  try dsimp only
  repeat' (first
    | (with_reducible exact h) | (with_reducible apply OnlyAir.post) | split
    | (with_reducible apply OnlyAir.with_air))

theorem OnlyAir.mapEntry {s t : State} (h : OnlyAir s t) (l : LaneId) (f : AirEntry → AirEntry) :
    OnlyAir s (State.mapEntry t l f) := by
  unfold State.mapEntry
  try dsimp only
  repeat' (first
    | (with_reducible exact h) | split | (with_reducible apply OnlyAir.with_air))

theorem OnlyAir.dropEntry {s t : State} (h : OnlyAir s t) (l : LaneId) :
    OnlyAir s (State.dropEntry t l) := by
  unfold State.dropEntry
  try dsimp only
  repeat' (first
    | (with_reducible exact h) | (with_reducible apply OnlyAir.post) | split
    | (with_reducible apply OnlyAir.with_air))

theorem OnlyAir.setGrant {s t : State} (h : OnlyAir s t) (l : LaneId) (g : Nat) :
    OnlyAir s (State.setGrant t l g) := h.trans rfl

theorem OnlyAir.serveSteps {s : State} : ∀ (fuel : Nat) {t : State}, OnlyAir s t → OnlyAir s (State.serveSteps fuel t)
  | 0, _, h => h
  | fuel + 1, t, h => by
    unfold State.serveSteps
    dsimp only
    split
    · exact h
    · split
      · apply OnlyAir.serveSteps
        apply OnlyAir.completeAdoption
        split
        · exact (h.setGrant _ _).dropEntry _
        · exact (h.setGrant _ _).with_air _
      · exact h

theorem OnlyAir.serve {s t : State} (h : OnlyAir s t) :
    OnlyAir s (State.serve t) := by
  unfold State.serve
  try dsimp only
  repeat' (first
    | (with_reducible exact h) | (with_reducible apply OnlyAir.serveSteps))

theorem OnlyAir.settleAir {s t : State} (h : OnlyAir s t) :
    OnlyAir s (State.settleAir t) := by
  unfold State.settleAir
  try dsimp only
  repeat' (first
    | (with_reducible exact h) | (with_reducible apply OnlyAir.retime)
    | (with_reducible apply OnlyAir.testDeficit) | (with_reducible apply OnlyAir.serve))

theorem OnlyAir.withdraw {s t : State} (h : OnlyAir s t) (l : LaneId) :
    OnlyAir s (State.withdraw t l) := by
  unfold State.withdraw
  try dsimp only
  repeat' (first
    | (with_reducible exact h) | (with_reducible apply OnlyAir.dropEntry)
    | (with_reducible apply OnlyAir.settleAir) | split)

theorem OnlyAir.requestAir {s t : State} (h : OnlyAir s t) (l : LaneId) (amount : Nat) :
    OnlyAir s (State.requestAir t l amount) := by
  unfold State.requestAir
  try dsimp only
  repeat' (first
    | (with_reducible exact h) | (with_reducible apply OnlyAir.mapEntry)
    | (with_reducible apply OnlyAir.settleAir) | (with_reducible apply OnlyAir.withdraw) | split
    | (with_reducible apply OnlyAir.with_air))

theorem OnlyAir.releaseAir {s t : State} (h : OnlyAir s t) (l : LaneId) (value : Nat) :
    OnlyAir s (State.releaseAir t l value) := by
  unfold State.releaseAir
  try dsimp only
  repeat' (first
    | (with_reducible exact h) | (with_reducible apply OnlyAir.dropEntry)
    | (with_reducible apply OnlyAir.setGrant) | (with_reducible apply OnlyAir.settleAir))

theorem OnlyAir.grantTimeout {s t : State} (h : OnlyAir s t) (l : LaneId) (value : Nat) :
    OnlyAir s (State.grantTimeout t l value) := by
  unfold State.grantTimeout
  try dsimp only
  repeat' (first
    | (with_reducible exact h) | (with_reducible apply OnlyAir.notify)
    | (with_reducible apply OnlyAir.setGrant) | (with_reducible apply OnlyAir.settleAir)
    | (with_reducible apply OnlyAir.with_air))

theorem OnlyAir.setHoldMark {s t : State} (h : OnlyAir s t) (l : LaneId) (v : Bool) :
    OnlyAir s (State.setHoldMark t l v) := h.trans rfl

theorem OnlyAir.cutLane {s t : State} (h : OnlyAir s t) (floor : Nat) (requeue : Bool) (l : LaneId) :
    OnlyAir s (State.cutLane t floor requeue l) := by
  unfold State.cutLane
  try dsimp only
  repeat' (first
    | (with_reducible exact h) | (with_reducible apply OnlyAir.notify)
    | (with_reducible apply OnlyAir.mapEntry) | (with_reducible apply OnlyAir.setGrant) | split)

theorem OnlyAir.cut {s t : State} (h : OnlyAir s t) : OnlyAir s t.cut := by
  unfold State.cut
  extract_lets t₁ t₂
  have h₁ : OnlyAir s t₁ := h.forAll fun _ _ h => OnlyAir.cutLane h _ _ _
  have h₂ : OnlyAir s t₂ := h₁.forAll fun _ _ h => OnlyAir.cutLane h _ _ _
  split
  · split
    · exact h₂
    · exact ((h₂.with_air _).post _ _).notify _ _
  · exact h₂.testDeficit

theorem OnlyAir.dropCapacity {s t : State} (h : OnlyAir s t) (b : BlowerId) :
    OnlyAir s (State.dropCapacity t b) := by
  unfold State.dropCapacity
  try dsimp only
  repeat' (first
    | (with_reducible exact h) | (with_reducible apply OnlyAir.with_air))

theorem OnlyAir.addCapacity {s t : State} (h : OnlyAir s t) (b : BlowerId) (rated : Nat) :
    OnlyAir s (State.addCapacity t b rated) := by
  unfold State.addCapacity
  try dsimp only
  repeat' (first
    | (with_reducible exact h) | (with_reducible apply OnlyAir.retime)
    | (with_reducible apply OnlyAir.testDeficit) | (with_reducible apply OnlyAir.serve)
    | (with_reducible apply OnlyAir.with_air))

theorem OnlyAir.loseCapacity {s t : State} (h : OnlyAir s t) (b : BlowerId) :
    OnlyAir s (State.loseCapacity t b) := by
  unfold State.loseCapacity
  try dsimp only
  repeat' (first
    | (with_reducible exact h) | (with_reducible apply OnlyAir.retime)
    | (with_reducible apply OnlyAir.testDeficit) | (with_reducible apply OnlyAir.serve)
    | (with_reducible apply OnlyAir.cut) | (with_reducible apply OnlyAir.dropCapacity) | split)

theorem OnlyAir.clearHoldMark {s t : State} (h : OnlyAir s t) (l : LaneId) :
    OnlyAir s (State.clearHoldMark t l) := by
  unfold State.clearHoldMark
  try dsimp only
  repeat' (first
    | (with_reducible exact h) | (with_reducible apply OnlyAir.retime) | (with_reducible apply OnlyAir.serve)
    | (with_reducible apply OnlyAir.setHoldMark) | (with_reducible apply OnlyAir.cut) | split)

theorem OnlyAir.claimFreeze {s t : State} (h : OnlyAir s t) (n : Nat) :
    OnlyAir s (State.claimFreeze t n) := by
  unfold State.claimFreeze
  try dsimp only
  repeat' (first
    | (with_reducible exact h) | split | (with_reducible apply OnlyAir.with_air))

theorem OnlyAir.endFreeze {s t : State} (h : OnlyAir s t) :
    OnlyAir s (State.endFreeze t) := by
  unfold State.endFreeze
  try dsimp only
  repeat' (first
    | (with_reducible exact h) | (with_reducible apply OnlyAir.serve) | (with_reducible apply OnlyAir.with_air))

theorem OnlyAir.countFreeze {s t : State} (h : OnlyAir s t) :
    OnlyAir s (State.countFreeze t) := by
  unfold State.countFreeze
  try dsimp only
  repeat' (first
    | (with_reducible exact h) | (with_reducible apply OnlyAir.endFreeze) | split
    | (with_reducible apply OnlyAir.with_air))

theorem OnlyAir.starve {s t : State} (h : OnlyAir s t) (l : LaneId) :
    OnlyAir s (State.starve t l) := by
  unfold State.starve
  try dsimp only
  repeat' (first
    | (with_reducible exact h) | (with_reducible apply OnlyAir.post) | (with_reducible apply OnlyAir.mapEntry)
    | split)

theorem OnlyAir.testStarvation {s t : State} (h : OnlyAir s t) :
    OnlyAir s (State.testStarvation t) := by
  unfold State.testStarvation
  try dsimp only
  repeat' (first
    | (with_reducible exact h) | (with_reducible apply OnlyAir.starve) | (with_reducible apply OnlyAir.forAll)
    | (intro _ _ h))

theorem OnlyAir.postTrim {s t : State} (h : OnlyAir s t) (l : LaneId) :
    OnlyAir s (State.postTrim t l) := by
  unfold State.postTrim
  try dsimp only
  repeat' (first
    | (with_reducible exact h) | (with_reducible apply OnlyAir.post))

theorem OnlyAir.unsuppress {s t : State} (h : OnlyAir s t) (e : AlarmId) : OnlyAir s (State.unsuppress t e) :=
  h.trans (OnlyAlarms.unsuppress (.refl t) e).air

theorem OnlyAir.flagEntries {s t : State} (h : OnlyAir s t) (es : List AlarmId) (v : Bool) :
    OnlyAir s (State.flagEntries t es v) :=
  h.trans (OnlyAlarms.flagEntries (.refl t) es v).air

theorem OnlyAir.suppressLane {s t : State} (h : OnlyAir s t) (l : LaneId) (v : Bool) :
    OnlyAir s (State.suppressLane t l v) :=
  h.trans (OnlyAlarms.suppressLane (.refl t) l v).air

theorem OnlyAir.enterParked {s t : State} (h : OnlyAir s t) (l : LaneId) (mode : LaneMode) :
    OnlyAir s (State.enterParked t l mode) := by
  unfold State.enterParked
  try dsimp only
  repeat' (first
    | (with_reducible exact h) | (with_reducible apply OnlyAir.post)
    | (with_reducible apply OnlyAir.suppressLane) | (with_reducible apply OnlyAir.setLane)
    | (with_reducible apply OnlyAir.postTrim) | (with_reducible apply OnlyAir.writeValve)
    | (with_reducible apply OnlyAir.releaseAir) | (with_reducible apply OnlyAir.setHoldMark) | split)

theorem OnlyAir.enterAdopting {s t : State} (h : OnlyAir s t) (l : LaneId) (target : RunMode) :
    OnlyAir s (State.enterAdopting t l target) := by
  unfold State.enterAdopting
  try dsimp only
  repeat' (first
    | (with_reducible exact h) | (with_reducible apply OnlyAir.post)
    | (with_reducible apply OnlyAir.suppressLane) | (with_reducible apply OnlyAir.setLane)
    | (with_reducible apply OnlyAir.dropValve) | (with_reducible apply OnlyAir.requestAir))

theorem OnlyAir.enterHold {s t : State} (h : OnlyAir s t) (l : LaneId) :
    OnlyAir s (State.enterHold t l) := by
  unfold State.enterHold
  try dsimp only
  repeat' (first
    | (with_reducible exact h) | (with_reducible apply OnlyAir.setLane) | (with_reducible apply OnlyAir.notify)
    | (with_reducible apply OnlyAir.postTrim) | (with_reducible apply OnlyAir.withdraw)
    | (with_reducible apply OnlyAir.setHoldMark) | (with_reducible apply OnlyAir.writeValve) | split)

theorem OnlyAir.wake {s t : State} (h : OnlyAir s t) (l : LaneId) :
    OnlyAir s (State.wake t l) := by
  unfold State.wake
  try dsimp only
  repeat' (first
    | (with_reducible exact h) | (with_reducible apply OnlyAir.setLane) | (with_reducible apply OnlyAir.notify)
    | (with_reducible apply OnlyAir.enterAdopting) | split)

theorem OnlyAir.repark {s t : State} (h : OnlyAir s t) (l : LaneId) :
    OnlyAir s (State.repark t l) := by
  unfold State.repark
  try dsimp only
  repeat' (first
    | (with_reducible exact h) | (with_reducible apply OnlyAir.enterParked) | split)

theorem OnlyAir.finishPeriod {s t : State} (h : OnlyAir s t) (l : LaneId) (c : LaneFields) (grant : Nat) :
    OnlyAir s (State.finishPeriod t l c grant) := by
  unfold State.finishPeriod
  try dsimp only
  repeat' (first
    | (with_reducible exact h) | (with_reducible apply OnlyAir.post) | (with_reducible apply OnlyAir.setLane)
    | (with_reducible apply OnlyAir.writeValve))

theorem OnlyAir.reportFault {s t : State} (h : OnlyAir s t) (l : LaneId) (w : Working) :
    OnlyAir s (State.reportFault t l w) := by
  unfold State.reportFault
  try dsimp only
  repeat' (first
    | (with_reducible exact h) | (with_reducible apply OnlyAir.notify)
    | (with_reducible apply OnlyAir.postTrim) | split)

theorem OnlyAir.presentClaim {s t : State} (h : OnlyAir s t) (l : LaneId) (claim : AirClaim) :
    OnlyAir s (State.presentClaim t l claim) := by
  cases claim <;> dsimp only [State.presentClaim]
  repeat' (first
    | (with_reducible exact h) | (with_reducible apply OnlyAir.withdraw)
    | (with_reducible apply OnlyAir.requestAir) | (with_reducible apply OnlyAir.releaseAir))

theorem OnlyAir.lanePeriod {s t : State} (h : OnlyAir s t) (l : LaneId) :
    OnlyAir s (State.lanePeriod t l) := by
  unfold State.lanePeriod
  try dsimp only
  repeat' (first
    | (with_reducible exact h) | (with_reducible apply OnlyAir.setLane)
    | (with_reducible apply OnlyAir.enterHold) | (with_reducible apply OnlyAir.presentClaim)
    | (with_reducible apply OnlyAir.finishPeriod) | (with_reducible apply OnlyAir.reportFault) | split)

theorem OnlyAir.stallMove {s t : State} (h : OnlyAir s t) (l : LaneId) :
    OnlyAir s (State.stallMove t l) := by
  unfold State.stallMove
  try dsimp only
  repeat' (first
    | (with_reducible exact h) | (with_reducible apply OnlyAir.post) | (with_reducible apply OnlyAir.setLane)
    | (with_reducible apply OnlyAir.notify) | (with_reducible apply OnlyAir.withdraw)
    | (with_reducible apply OnlyAir.grantTimeout) | split)

theorem OnlyAir.endWindow {s t : State} (h : OnlyAir s t) (l : LaneId) :
    OnlyAir s (State.endWindow t l) := by
  unfold State.endWindow
  try dsimp only
  repeat' (first
    | (with_reducible exact h) | (with_reducible apply OnlyAir.setLane)
    | (with_reducible apply OnlyAir.stallMove) | (with_reducible apply OnlyAir.dropValve) | split)

theorem OnlyAir.revalidate {s t : State} (h : OnlyAir s t) (l : LaneId) (c : LaneFields) :
    OnlyAir s (State.revalidate t l c) := by
  unfold State.revalidate
  try dsimp only
  repeat' (first
    | (with_reducible exact h) | (with_reducible apply OnlyAir.setLane)
    | (with_reducible apply OnlyAir.writeValve))

theorem OnlyAir.testStalled {s t : State} (h : OnlyAir s t) (l : LaneId) (c : LaneFields) :
    OnlyAir s (State.testStalled t l c) := by
  unfold State.testStalled
  try dsimp only
  repeat' (first
    | (with_reducible exact h) | (with_reducible apply OnlyAir.post) | (with_reducible apply OnlyAir.setLane)
    | split)

theorem OnlyAir.superviseMove {s t : State} (h : OnlyAir s t) (l : LaneId) (c : LaneFields) :
    OnlyAir s (State.superviseMove t l c) := by
  unfold State.superviseMove
  try dsimp only
  repeat' (first
    | (with_reducible exact h) | (with_reducible apply OnlyAir.setLane)
    | (with_reducible apply OnlyAir.endWindow) | (with_reducible apply OnlyAir.revalidate)
    | (with_reducible apply OnlyAir.writeValve) | split)

theorem OnlyAir.laneFeedback {s t : State} (h : OnlyAir s t) (d : HubId) (l : LaneId) :
    OnlyAir s (State.laneFeedback d l t) := by
  unfold State.laneFeedback
  try dsimp only
  repeat' (first
    | (with_reducible exact h) | (with_reducible apply OnlyAir.testStalled)
    | (with_reducible apply OnlyAir.superviseMove) | split)

theorem OnlyAir.takeLaneSet {s t : State} (h : OnlyAir s t) (l : LaneId) (f : LaneFields) :
    OnlyAir s (State.takeLaneSet t l f) := by
  unfold State.takeLaneSet
  try dsimp only
  repeat' (first
    | (with_reducible exact h) | (with_reducible apply OnlyAir.setLane)
    | (with_reducible apply OnlyAir.writeSlot) | (with_reducible apply OnlyAir.releaseSlot)
    | (with_reducible apply OnlyAir.claimSlot) | (with_reducible apply OnlyAir.enterParked)
    | (with_reducible apply OnlyAir.withdraw) | (with_reducible apply OnlyAir.requestAir) | split)

theorem OnlyAir.setGate {s t : State} (h : OnlyAir s t) (l : LaneId) (gate : Bool) :
    OnlyAir s (State.setGate t l gate) := by
  unfold State.setGate
  try dsimp only
  repeat' (first
    | (with_reducible exact h) | (with_reducible apply OnlyAir.setLane) | (with_reducible apply OnlyAir.notify)
    | (with_reducible apply OnlyAir.postTrim) | (with_reducible apply OnlyAir.enterHold) | split)

theorem OnlyAir.releaseLane {s t : State} (h : OnlyAir s t) (l : LaneId) :
    OnlyAir s (State.releaseLane t l) := by
  unfold State.releaseLane
  try dsimp only
  repeat' (first
    | (with_reducible exact h) | (with_reducible apply OnlyAir.setLane)
    | (with_reducible apply OnlyAir.postTrim) | (with_reducible apply OnlyAir.clearHoldMark) | split)

theorem OnlyAir.flowMismatch {s t : State} (h : OnlyAir s t) (l : LaneId) :
    OnlyAir s (State.flowMismatch t l) := by
  unfold State.flowMismatch
  try dsimp only
  repeat' (first
    | (with_reducible exact h) | (with_reducible apply OnlyAir.setLane)
    | (with_reducible apply OnlyAir.enterHold) | (with_reducible apply OnlyAir.reportFault) | split)

theorem OnlyAir.laneSecond {s t : State} (h : OnlyAir s t) (l : LaneId) :
    OnlyAir s (State.laneSecond l t) := by
  unfold State.laneSecond
  try dsimp only
  repeat' (first
    | (with_reducible exact h) | (with_reducible apply OnlyAir.lanePeriod) | split)

theorem OnlyPower.setSlot {s t : State} (h : OnlyPower s t) (q : SlotId) (r : Slot) :
    OnlyPower s (State.setSlot t q r) := h.trans rfl

theorem OnlyPower.updateSlot {s t : State} (h : OnlyPower s t) (q : Nat) (f : Slot → Slot) :
    OnlyPower s (State.updateSlot t q f) := by
  unfold State.updateSlot
  try dsimp only
  repeat' (first
    | (with_reducible exact h) | (with_reducible apply OnlyPower.setSlot) | split)

theorem OnlyPower.writeSlot {s t : State} (h : OnlyPower s t) (q value : Nat) (valid : Bool) :
    OnlyPower s (State.writeSlot t q value valid) := by
  unfold State.writeSlot
  try dsimp only
  repeat' (first
    | (with_reducible exact h) | (with_reducible apply OnlyPower.updateSlot))

theorem OnlyPower.invalidateSlot {s t : State} (h : OnlyPower s t) (q : Nat) :
    OnlyPower s (State.invalidateSlot t q) := by
  unfold State.invalidateSlot
  try dsimp only
  repeat' (first
    | (with_reducible exact h) | (with_reducible apply OnlyPower.updateSlot))

theorem OnlyPower.releaseSlot {s t : State} (h : OnlyPower s t) (q : Nat) :
    OnlyPower s (State.releaseSlot t q) := by
  unfold State.releaseSlot
  try dsimp only
  repeat' (first
    | (with_reducible exact h) | (with_reducible apply OnlyPower.updateSlot))

theorem OnlyPower.claimSlot {s t : State} (h : OnlyPower s t) (q : Nat) (c : Claimant) :
    OnlyPower s (State.claimSlot t q c) := by
  unfold State.claimSlot
  try dsimp only
  repeat' (first
    | (with_reducible exact h) | (with_reducible apply OnlyPower.updateSlot))

theorem OnlyPower.reclaim {s t : State} (h : OnlyPower s t) (old new : List (Nat × Claimant)) :
    OnlyPower s (State.reclaim t old new) := by
  unfold State.reclaim
  try dsimp only
  repeat' (first
    | (with_reducible exact h) | (with_reducible apply OnlyPower.releaseSlot)
    | (with_reducible apply OnlyPower.claimSlot) | (with_reducible apply OnlyPower.forAll) | (intro _ _ h))

theorem OnlyPower.setBlower {s t : State} (h : OnlyPower s t) (b : BlowerId) (r : Blower) :
    OnlyPower s (State.setBlower t b r) := h.trans rfl

theorem OnlyPower.setTrain {s t : State} (h : OnlyPower s t) (k : TrainId) (r : Train) :
    OnlyPower s (State.setTrain t k r) := h.trans rfl

theorem OnlyPower.setBudget {s t : State} (h : OnlyPower s t) (u : Budget) :
    OnlyPower s (State.setBudget t u) := h.trans rfl

theorem OnlyPower.setPlant {s t : State} (h : OnlyPower s t) (p : Plant) :
    OnlyPower s (State.setPlant t p) := h.trans rfl

theorem OnlyPower.writeBlower {s t : State} (h : OnlyPower s t) (b : BlowerId) :
    OnlyPower s (State.writeBlower t b) := by
  unfold State.writeBlower
  try dsimp only
  repeat' (first
    | (with_reducible exact h) | (with_reducible apply OnlyPower.writeSlot)
    | (with_reducible apply OnlyPower.invalidateSlot) | split)

theorem OnlyPower.enterBlower {s t : State} (h : OnlyPower s t) (b : BlowerId) (r : Blower) :
    OnlyPower s (State.enterBlower t b r) := by
  unfold State.enterBlower
  try dsimp only
  repeat' (first
    | (with_reducible exact h) | (with_reducible apply OnlyPower.setBlower)
    | (with_reducible apply OnlyPower.writeBlower))

theorem OnlyPower.notify {s t : State} (h : OnlyPower s t) (src : Source) (c : Cause) :
    OnlyPower s (State.notify t src c) :=
  h.trans (OnlyAlarms.notify (.refl t) src c).power

theorem OnlyPower.record {s t : State} (h : OnlyPower s t) (e : AlarmId) (tr : Transition) :
    OnlyPower s (State.record t e tr) :=
  h.trans (OnlyAlarms.record (.refl t) e tr).power

theorem OnlyPower.setEntry {s t : State} (h : OnlyPower s t) (e : AlarmId) (r : Entry) :
    OnlyPower s (State.setEntry t e r) :=
  h.trans (OnlyAlarms.setEntry (.refl t) e r).power

theorem OnlyPower.presentTrigger {s t : State} (h : OnlyPower s t) (src : TriggerSource) (concerns : Channel → Bool) :
    OnlyPower s (State.presentTrigger t src concerns) :=
  h.trans (OnlyAlarms.presentTrigger (.refl t) src concerns).power

theorem OnlyPower.raise {s t : State} (h : OnlyPower s t) (e : AlarmId) : OnlyPower s (State.raise t e) :=
  h.trans (OnlyAlarms.raise (.refl t) e).power

theorem OnlyPower.clearingEnds {s t : State} (h : OnlyPower s t) (e : AlarmId) :
    OnlyPower s (State.clearingEnds t e) :=
  h.trans (OnlyAlarms.clearingEnds (.refl t) e).power

theorem OnlyPower.startOnDelay {s t : State} (h : OnlyPower s t) (e : AlarmId) :
    OnlyPower s (State.startOnDelay t e) :=
  h.trans (OnlyAlarms.startOnDelay (.refl t) e).power

theorem OnlyPower.actOn {s t : State} (h : OnlyPower s t) (e : AlarmId) : OnlyPower s (State.actOn t e) :=
  h.trans (OnlyAlarms.actOn (.refl t) e).power

theorem OnlyPower.post {s t : State} (h : OnlyPower s t) (e : AlarmId) (v : Bool) : OnlyPower s (State.post t e v) :=
  h.trans (OnlyAlarms.post (.refl t) e v).power

theorem OnlyPower.blowerAdmitted {s t : State} (h : OnlyPower s t) (b : BlowerId) :
    OnlyPower s (State.blowerAdmitted t b) := by
  unfold State.blowerAdmitted
  try dsimp only
  repeat' (first
    | (with_reducible exact h) | (with_reducible apply OnlyPower.post)
    | (with_reducible apply OnlyPower.enterBlower) | split)

theorem OnlyPower.writePump {s t : State} (h : OnlyPower s t) (k : TrainId) :
    OnlyPower s (State.writePump t k) := by
  unfold State.writePump
  try dsimp only
  repeat' (first
    | (with_reducible exact h) | (with_reducible apply OnlyPower.writeSlot)
    | (with_reducible apply OnlyPower.invalidateSlot) | split)

theorem OnlyPower.postRasLimited {s t : State} (h : OnlyPower s t) (k : TrainId) :
    OnlyPower s (State.postRasLimited t k) := by
  unfold State.postRasLimited
  try dsimp only
  repeat' (first
    | (with_reducible exact h) | (with_reducible apply OnlyPower.post))

theorem OnlyPower.enterPump {s t : State} (h : OnlyPower s t) (k : TrainId) (r : Train) :
    OnlyPower s (State.enterPump t k r) := by
  unfold State.enterPump
  try dsimp only
  repeat' (first
    | (with_reducible exact h) | (with_reducible apply OnlyPower.setTrain)
    | (with_reducible apply OnlyPower.notify) | (with_reducible apply OnlyPower.writePump)
    | (with_reducible apply OnlyPower.postRasLimited) | split)

theorem OnlyPower.setPumpSpeed {s t : State} (h : OnlyPower s t) (k : TrainId) (speed : Nat) :
    OnlyPower s (State.setPumpSpeed t k speed) := by
  unfold State.setPumpSpeed
  try dsimp only
  repeat' (first
    | (with_reducible exact h) | (with_reducible apply OnlyPower.setTrain)
    | (with_reducible apply OnlyPower.writePump))

theorem OnlyPower.pumpAdmitted {s t : State} (h : OnlyPower s t) (k : TrainId) :
    OnlyPower s (State.pumpAdmitted t k) := by
  unfold State.pumpAdmitted
  try dsimp only
  repeat' (first
    | (with_reducible exact h) | (with_reducible apply OnlyPower.setTrain)
    | (with_reducible apply OnlyPower.writePump) | (with_reducible apply OnlyPower.postRasLimited)
    | (with_reducible apply OnlyPower.enterPump) | split)

theorem OnlyPower.mapCommit {s t : State} (h : OnlyPower s t) (d : Holder) (f : Commit → Commit) :
    OnlyPower s (State.mapCommit t d f) := by
  unfold State.mapCommit
  try dsimp only
  repeat' (first
    | (with_reducible exact h) | (with_reducible apply OnlyPower.setBudget))

theorem OnlyPower.appendCommit {s t : State} (h : OnlyPower s t) (e : Commit) :
    OnlyPower s (State.appendCommit t e) := by
  unfold State.appendCommit
  try dsimp only
  repeat' (first
    | (with_reducible exact h) | (with_reducible apply OnlyPower.setBudget))

theorem OnlyPower.givePower {s t : State} (h : OnlyPower s t) (d : Holder) (kw : Nat) :
    OnlyPower s (State.givePower t d kw) := by
  unfold State.givePower
  try dsimp only
  repeat' (first
    | (with_reducible exact h) | (with_reducible apply OnlyPower.mapCommit)
    | (with_reducible apply OnlyPower.appendCommit) | (with_reducible apply OnlyPower.blowerAdmitted)
    | (with_reducible apply OnlyPower.pumpAdmitted) | split)

theorem OnlyPower.powerSteps {s : State} :
    ∀ (fuel : Nat) {t : State}, OnlyPower s t → OnlyPower s (State.powerSteps fuel t)
  | 0, _, h => h
  | fuel + 1, t, h => by
    unfold State.powerSteps
    dsimp only
    split
    · exact h
    · split
      · exact OnlyPower.powerSteps fuel ((h.setBudget _).givePower _ _)
      · exact h

theorem OnlyPower.servePower {s t : State} (h : OnlyPower s t) :
    OnlyPower s (State.servePower t) := by
  unfold State.servePower
  try dsimp only
  repeat' (first
    | (with_reducible exact h) | (with_reducible apply OnlyPower.powerSteps))

theorem OnlyPower.withdrawPower {s t : State} (h : OnlyPower s t) (d : Holder) :
    OnlyPower s (State.withdrawPower t d) := by
  unfold State.withdrawPower
  try dsimp only
  repeat' (first
    | (with_reducible exact h) | (with_reducible apply OnlyPower.setBudget)
    | (with_reducible apply OnlyPower.servePower) | split)

theorem OnlyPower.requestPower {s t : State} (h : OnlyPower s t) (d : Holder) (cls kw : Nat) :
    OnlyPower s (State.requestPower t d cls kw) := by
  unfold State.requestPower
  try dsimp only
  repeat' (first
    | (with_reducible exact h) | (with_reducible apply OnlyPower.setBudget)
    | (with_reducible apply OnlyPower.givePower) | (with_reducible apply OnlyPower.servePower)
    | (with_reducible apply OnlyPower.withdrawPower) | split)

theorem OnlyPower.presentPumpStart {s t : State} (h : OnlyPower s t) (k : TrainId) :
    OnlyPower s (State.presentPumpStart t k) := by
  unfold State.presentPumpStart
  try dsimp only
  repeat' (first
    | (with_reducible exact h) | (with_reducible apply OnlyPower.setTrain)
    | (with_reducible apply OnlyPower.requestPower) | split)

theorem OnlyPower.liftPump {s t : State} (h : OnlyPower s t) (k : TrainId) :
    OnlyPower s (State.liftPump k t) := by
  unfold State.liftPump
  try dsimp only
  repeat' (first
    | (with_reducible exact h) | (with_reducible apply OnlyPower.presentPumpStart)
    | (with_reducible apply OnlyPower.postRasLimited) | split)

theorem OnlyPower.endShedding {s t : State} (h : OnlyPower s t) :
    OnlyPower s (State.endShedding t) := by
  unfold State.endShedding
  try dsimp only
  repeat' (first
    | (with_reducible exact h) | (with_reducible apply OnlyPower.post)
    | (with_reducible apply OnlyPower.notify) | (with_reducible apply OnlyPower.setBudget)
    | (with_reducible apply OnlyPower.servePower) | (with_reducible apply OnlyPower.liftPump)
    | (with_reducible apply OnlyPower.forAll) | (intro _ _ h) | (with_reducible apply OnlyPower.with_plant))

theorem OnlyPower.testPower {s t : State} (h : OnlyPower s t) :
    OnlyPower s (State.testPower t) := by
  unfold State.testPower
  try dsimp only
  repeat' (first
    | (with_reducible exact h) | (with_reducible apply OnlyPower.servePower)
    | (with_reducible apply OnlyPower.endShedding) | split)

theorem OnlyPower.capPump {s t : State} (h : OnlyPower s t) (k : TrainId) :
    OnlyPower s (State.capPump k t) := by
  unfold State.capPump
  try dsimp only
  repeat' (first
    | (with_reducible exact h) | (with_reducible apply OnlyPower.mapCommit)
    | (with_reducible apply OnlyPower.postRasLimited) | (with_reducible apply OnlyPower.setPumpSpeed) | split)

theorem OnlyPower.shedPump {s t : State} (h : OnlyPower s t) (k : TrainId) :
    OnlyPower s (State.shedPump k t) := by
  unfold State.shedPump
  try dsimp only
  repeat' (first
    | (with_reducible exact h) | (with_reducible apply OnlyPower.setTrain)
    | (with_reducible apply OnlyPower.setBudget) | split)

theorem OnlyPower.enterShedding {s t : State} (h : OnlyPower s t) :
    OnlyPower s (State.enterShedding t) := by
  unfold State.enterShedding
  try dsimp only
  repeat' (first
    | (with_reducible exact h) | (with_reducible apply OnlyPower.post)
    | (with_reducible apply OnlyPower.notify) | (with_reducible apply OnlyPower.setBudget)
    | (with_reducible apply OnlyPower.endShedding) | (with_reducible apply OnlyPower.capPump)
    | (with_reducible apply OnlyPower.shedPump) | (with_reducible apply OnlyPower.forAll) | (intro _ _ h)
    | split | (with_reducible apply OnlyPower.with_plant))

theorem OnlyPower.releasePower {s t : State} (h : OnlyPower s t) (d : Holder) :
    OnlyPower s (State.releasePower t d) := by
  unfold State.releasePower
  try dsimp only
  repeat' (first
    | (with_reducible exact h) | (with_reducible apply OnlyPower.setBudget)
    | (with_reducible apply OnlyPower.testPower) | split)

theorem OnlyPower.decreasePower {s t : State} (h : OnlyPower s t) (k : TrainId) (kw : Nat) :
    OnlyPower s (State.decreasePower t k kw) := by
  unfold State.decreasePower
  try dsimp only
  repeat' (first
    | (with_reducible exact h) | (with_reducible apply OnlyPower.mapCommit)
    | (with_reducible apply OnlyPower.testPower) | split)

theorem OnlyPower.convertPower {s t : State} (h : OnlyPower s t) (b : BlowerId) (kw : Nat) :
    OnlyPower s (State.convertPower t b kw) := by
  unfold State.convertPower
  try dsimp only
  repeat' (first
    | (with_reducible exact h) | (with_reducible apply OnlyPower.mapCommit)
    | (with_reducible apply OnlyPower.testPower) | split)

theorem OnlyPower.adoptPower {s t : State} (h : OnlyPower s t) (d : Holder) (kind : CommitKind) (kw : Nat) :
    OnlyPower s (State.adoptPower t d kind kw) := by
  unfold State.adoptPower
  try dsimp only
  repeat' (first
    | (with_reducible exact h) | (with_reducible apply OnlyPower.appendCommit)
    | (with_reducible apply OnlyPower.enterShedding) | split)

theorem OnlyPower.setCeiling {s t : State} (h : OnlyPower s t) (ceiling : Option Nat) (hard : Bool) (delay : Nat) :
    OnlyPower s (State.setCeiling t ceiling hard delay) := by
  unfold State.setCeiling
  try dsimp only
  repeat' (first
    | (with_reducible exact h) | (with_reducible apply OnlyPower.setBudget)
    | (with_reducible apply OnlyPower.servePower) | (with_reducible apply OnlyPower.endShedding)
    | (with_reducible apply OnlyPower.enterShedding) | split)

theorem OnlyPower.changed {s t : State} (h : OnlyPower s t) (b : BlowerId) :
    OnlyPower s (State.changed t b) := by
  unfold State.changed
  try dsimp only
  repeat' (first
    | (with_reducible exact h) | (with_reducible apply OnlyPower.notify))

theorem OnlyPower.testDeferral {s t : State} (h : OnlyPower s t) (b : BlowerId) :
    OnlyPower s (State.testDeferral t b) := by
  unfold State.testDeferral
  try dsimp only
  repeat' (first
    | (with_reducible exact h) | (with_reducible apply OnlyPower.post) | split)

theorem OnlyPower.enterWaitPower {s t : State} (h : OnlyPower s t) (b : BlowerId) (origin : Origin) (copy : SeqFields) :
    OnlyPower s (State.enterWaitPower t b origin copy) := by
  unfold State.enterWaitPower
  try dsimp only
  repeat' (first
    | (with_reducible exact h) | (with_reducible apply OnlyPower.requestPower)
    | (with_reducible apply OnlyPower.testDeferral) | (with_reducible apply OnlyPower.enterBlower) | split)

theorem OnlyPower.startBlower {s t : State} (h : OnlyPower s t) (b : BlowerId) (origin : Origin) :
    OnlyPower s (State.startBlower t b origin) := by
  unfold State.startBlower
  try dsimp only
  repeat' (first
    | (with_reducible exact h) | (with_reducible apply OnlyPower.setBlower)
    | (with_reducible apply OnlyPower.changed) | (with_reducible apply OnlyPower.enterWaitPower) | split)

theorem OnlyPower.enterMotorStart {s t : State} (h : OnlyPower s t) (b : BlowerId) (origin : Origin) (copy : SeqFields) :
    OnlyPower s (State.enterMotorStart t b origin copy) := by
  unfold State.enterMotorStart
  try dsimp only
  repeat' (first
    | (with_reducible exact h) | (with_reducible apply OnlyPower.enterBlower))

theorem OnlyPower.enterRamp {s t : State} (h : OnlyPower s t) (b : BlowerId) (origin : Origin) (copy : SeqFields) :
    OnlyPower s (State.enterRamp t b origin copy) := by
  unfold State.enterRamp
  try dsimp only
  repeat' (first
    | (with_reducible exact h) | (with_reducible apply OnlyPower.enterBlower))

theorem OnlyPower.failAttempt {s t : State} (h : OnlyPower s t) (b : BlowerId) (cause : FailureCause) :
    OnlyPower s (State.failAttempt t b cause) := by
  unfold State.failAttempt
  try dsimp only
  repeat' (first
    | (with_reducible exact h) | (with_reducible apply OnlyPower.post)
    | (with_reducible apply OnlyPower.notify) | (with_reducible apply OnlyPower.releasePower)
    | (with_reducible apply OnlyPower.changed) | (with_reducible apply OnlyPower.enterBlower) | split)

theorem OnlyPower.turnOff {s t : State} (h : OnlyPower s t) (b : BlowerId) :
    OnlyPower s (State.turnOff t b) := by
  unfold State.turnOff
  try dsimp only
  repeat' (first
    | (with_reducible exact h) | (with_reducible apply OnlyPower.enterBlower))

theorem OnlyPower.enterOff {s t : State} (h : OnlyPower s t) (b : BlowerId) :
    OnlyPower s (State.enterOff t b) := by
  unfold State.enterOff
  try dsimp only
  repeat' (first
    | (with_reducible exact h) | (with_reducible apply OnlyPower.changed)
    | (with_reducible apply OnlyPower.turnOff))

theorem OnlyPower.enterRunDown {s t : State} (h : OnlyPower s t) (b : BlowerId) :
    OnlyPower s (State.enterRunDown t b) := by
  unfold State.enterRunDown
  try dsimp only
  repeat' (first
    | (with_reducible exact h) | (with_reducible apply OnlyPower.enterBlower) | split)

theorem OnlyPower.finishStop {s t : State} (h : OnlyPower s t) (b : BlowerId) :
    OnlyPower s (State.finishStop t b) := by
  unfold State.finishStop
  try dsimp only
  repeat' (first
    | (with_reducible exact h) | (with_reducible apply OnlyPower.releasePower)
    | (with_reducible apply OnlyPower.turnOff)
    | (with_reducible apply OnlyPower.changed))

theorem OnlyPower.failStop {s t : State} (h : OnlyPower s t) (b : BlowerId) :
    OnlyPower s (State.failStop t b) := by
  unfold State.failStop
  try dsimp only
  repeat' (first
    | (with_reducible exact h) | (with_reducible apply OnlyPower.post)
    | (with_reducible apply OnlyPower.notify) | (with_reducible apply OnlyPower.changed)
    | (with_reducible apply OnlyPower.enterBlower))

theorem OnlyPower.abortStart {s t : State} (h : OnlyPower s t) (b : BlowerId) (step : StartStep) :
    OnlyPower s (State.abortStart t b step) := by
  unfold State.abortStart
  try dsimp only
  repeat' (first
    | (with_reducible exact h) | (with_reducible apply OnlyPower.post)
    | (with_reducible apply OnlyPower.setBlower) | (with_reducible apply OnlyPower.withdrawPower)
    | (with_reducible apply OnlyPower.releasePower) | (with_reducible apply OnlyPower.enterOff)
    | (with_reducible apply OnlyPower.turnOff)
    | (with_reducible apply OnlyPower.finishStop) | (with_reducible apply OnlyPower.changed)
    | (with_reducible apply OnlyPower.enterRunDown) | split)

theorem OnlyPower.endSurgeHold {s t : State} (h : OnlyPower s t) (b : BlowerId) :
    OnlyPower s (State.endSurgeHold t b) := by
  unfold State.endSurgeHold
  try dsimp only
  repeat' (first
    | (with_reducible exact h) | (with_reducible apply OnlyPower.enterBlower) | split)

theorem OnlyPower.endSurgeWatch {s t : State} (h : OnlyPower s t) (b : BlowerId) :
    OnlyPower s (State.endSurgeWatch t b) := by
  unfold State.endSurgeWatch
  try dsimp only
  repeat' (first
    | (with_reducible exact h) | (with_reducible apply OnlyPower.post)
    | (with_reducible apply OnlyPower.setBlower) | split)

theorem OnlyPower.setBlind {s t : State} (h : OnlyPower s t) (b : BlowerId) (v : Bool) :
    OnlyPower s (State.setBlind t b v) := by
  unfold State.setBlind
  try dsimp only
  repeat' (first
    | (with_reducible exact h) | (with_reducible apply OnlyPower.setBlower)
    | (with_reducible apply OnlyPower.changed) | split)

theorem OnlyPower.pumpOff {s t : State} (h : OnlyPower s t) (k : TrainId) :
    OnlyPower s (State.pumpOff t k) := by
  unfold State.pumpOff
  try dsimp only
  repeat' (first
    | (with_reducible exact h) | (with_reducible apply OnlyPower.enterPump))

theorem OnlyPower.pumpTripped {s t : State} (h : OnlyPower s t) (k : TrainId) :
    OnlyPower s (State.pumpTripped t k) := by
  unfold State.pumpTripped
  try dsimp only
  repeat' (first
    | (with_reducible exact h) | (with_reducible apply OnlyPower.post)
    | (with_reducible apply OnlyPower.enterPump))

theorem OnlyPower.withdrawIncrease {s t : State} (h : OnlyPower s t) (k : TrainId) :
    OnlyPower s (State.withdrawIncrease t k) := by
  unfold State.withdrawIncrease
  try dsimp only
  repeat' (first
    | (with_reducible exact h) | (with_reducible apply OnlyPower.setTrain)
    | (with_reducible apply OnlyPower.withdrawPower) | (with_reducible apply OnlyPower.postRasLimited))

theorem OnlyPower.failPumpStart {s t : State} (h : OnlyPower s t) (k : TrainId) :
    OnlyPower s (State.failPumpStart t k) := by
  unfold State.failPumpStart
  try dsimp only
  repeat' (first
    | (with_reducible exact h) | (with_reducible apply OnlyPower.releasePower)
    | (with_reducible apply OnlyPower.pumpTripped))

theorem OnlyPower.tripPump {s t : State} (h : OnlyPower s t) (k : TrainId) :
    OnlyPower s (State.tripPump t k) := by
  unfold State.tripPump
  try dsimp only
  repeat' (first
    | (with_reducible exact h) | (with_reducible apply OnlyPower.releasePower)
    | (with_reducible apply OnlyPower.pumpTripped) | (with_reducible apply OnlyPower.withdrawIncrease))

theorem OnlyPower.stopPump {s t : State} (h : OnlyPower s t) (k : TrainId) :
    OnlyPower s (State.stopPump t k) := by
  unfold State.stopPump
  try dsimp only
  repeat' (first
    | (with_reducible exact h) | (with_reducible apply OnlyPower.withdrawPower)
    | (with_reducible apply OnlyPower.releasePower) | (with_reducible apply OnlyPower.pumpOff)
    | (with_reducible apply OnlyPower.withdrawIncrease) | split)

theorem OnlyPower.startPump {s t : State} (h : OnlyPower s t) (k : TrainId) :
    OnlyPower s (State.startPump t k) := by
  unfold State.startPump
  try dsimp only
  repeat' (first
    | (with_reducible exact h) | (with_reducible apply OnlyPower.presentPumpStart)
    | (with_reducible apply OnlyPower.enterPump))

theorem OnlyPower.takeSpeed {s t : State} (h : OnlyPower s t) (k : TrainId) (c : TrainFields) (speed : Nat) :
    OnlyPower s (State.takeSpeed t k c speed) := (h.setPumpSpeed k speed).decreasePower k _

theorem OnlyPower.runCapped {s t : State} (h : OnlyPower s t) (k : TrainId) : OnlyPower s (State.runCapped t k) := by
  unfold State.runCapped
  repeat' (first | (with_reducible exact h) | (with_reducible apply OnlyPower.takeSpeed) | split)

theorem OnlyPower.pumpConfirmed {s t : State} (h : OnlyPower s t) (k : TrainId) :
    OnlyPower s (State.pumpConfirmed t k) := (h.enterPump k _).runCapped k

theorem OnlyPower.adoptPump {s t : State} (h : OnlyPower s t) (k : TrainId) :
    OnlyPower s (State.adoptPump t k) := by
  unfold State.adoptPump
  try dsimp only
  repeat' (first
    | (with_reducible exact h) | (with_reducible apply OnlyPower.setTrain)
    | (with_reducible apply OnlyPower.adoptPower) | (with_reducible apply OnlyPower.pumpConfirmed) | split)

theorem OnlyPower.pumpFoundRunning {s t : State} (h : OnlyPower s t) (k : TrainId) :
    OnlyPower s (State.pumpFoundRunning t k) := by
  unfold State.pumpFoundRunning
  repeat' (first
    | (with_reducible exact h) | (with_reducible apply OnlyPower.setTrain) | (with_reducible apply OnlyPower.adoptPump))

theorem OnlyPower.countPumpRunning {s t : State} (h : OnlyPower s t) (k : TrainId) (running : Bool) :
    OnlyPower s (State.countPumpRunning t k running) := by
  unfold State.countPumpRunning
  try dsimp only
  repeat' (first
    | (with_reducible exact h) | (with_reducible apply OnlyPower.setTrain)
    | (with_reducible apply OnlyPower.pumpFoundRunning) | split)

theorem OnlyPower.testPump {s t : State} (h : OnlyPower s t) (k : TrainId) (sample : Option Bool) :
    OnlyPower s (State.testPump t k sample) := by
  unfold State.testPump
  try dsimp only
  repeat' (first
    | (with_reducible exact h) | (with_reducible apply OnlyPower.pumpOff)
    | (with_reducible apply OnlyPower.tripPump) | (with_reducible apply OnlyPower.pumpConfirmed)
    | (with_reducible apply OnlyPower.adoptPump) | (with_reducible apply OnlyPower.countPumpRunning) | split)

theorem OnlyPower.countPumpTime {s t : State} (h : OnlyPower s t) (k : TrainId) :
    OnlyPower s (State.countPumpTime t k) := by
  unfold State.countPumpTime
  try dsimp only
  repeat' (first
    | (with_reducible exact h) | (with_reducible apply OnlyPower.setTrain)
    | (with_reducible apply OnlyPower.failPumpStart) | split)

theorem OnlyPower.pumpFrame {s t : State} (h : OnlyPower s t) (d : HubId) (before : State) (k : TrainId) :
    OnlyPower s (State.pumpFrame d before k t) := by
  unfold State.pumpFrame
  try dsimp only
  repeat' (first
    | (with_reducible exact h) | (with_reducible apply OnlyPower.testPump)
    | (with_reducible apply OnlyPower.countPumpTime) | split)

theorem OnlyPower.setBoost {s t : State} (h : OnlyPower s t) (k : TrainId) (v : Bool) :
    OnlyPower s (State.setBoost t k v) := by
  unfold State.setBoost
  try dsimp only
  repeat' (first
    | (with_reducible exact h) | (with_reducible apply OnlyPower.post)
    | (with_reducible apply OnlyPower.setTrain))

theorem OnlyPower.evaluateBlanket {s t : State} (h : OnlyPower s t) (k : TrainId) (c : TrainFields) :
    OnlyPower s (State.evaluateBlanket t k c) := by
  unfold State.evaluateBlanket
  try dsimp only
  repeat' (first
    | (with_reducible exact h) | (with_reducible apply OnlyPower.setTrain)
    | (with_reducible apply OnlyPower.setBoost) | split)

theorem OnlyPower.requestIncrease {s t : State} (h : OnlyPower s t) (k : TrainId) (c : TrainFields) (target : Nat) :
    OnlyPower s (State.requestIncrease t k c target) := by
  unfold State.requestIncrease
  try dsimp only
  repeat' (first
    | (with_reducible exact h) | (with_reducible apply OnlyPower.setTrain)
    | (with_reducible apply OnlyPower.requestPower) | (with_reducible apply OnlyPower.withdrawIncrease)
    | (with_reducible apply OnlyPower.postRasLimited) | split)

theorem OnlyPower.pursueSpeed {s t : State} (h : OnlyPower s t) (k : TrainId) (c : TrainFields) (target : Nat) :
    OnlyPower s (State.pursueSpeed t k c target) := by
  unfold State.pursueSpeed
  try dsimp only
  repeat' (first
    | (with_reducible exact h) | (with_reducible apply OnlyPower.takeSpeed)
    | (with_reducible apply OnlyPower.withdrawIncrease) | (with_reducible apply OnlyPower.requestIncrease) | split)

theorem OnlyPower.pacingPeriod {s t : State} (h : OnlyPower s t) (k : TrainId) :
    OnlyPower s (State.pacingPeriod t k) := by
  unfold State.pacingPeriod
  try dsimp only
  repeat' (first
    | (with_reducible exact h) | (with_reducible apply OnlyPower.setTrain)
    | (with_reducible apply OnlyPower.evaluateBlanket) | (with_reducible apply OnlyPower.pursueSpeed) | split)

theorem OnlyPower.pumpSecond {s t : State} (h : OnlyPower s t) (k : TrainId) :
    OnlyPower s (State.pumpSecond k t) := by
  unfold State.pumpSecond
  try dsimp only
  repeat' (first
    | (with_reducible exact h) | (with_reducible apply OnlyPower.setTrain)
    | (with_reducible apply OnlyPower.postRasLimited))

theorem OnlyPower.unsuppress {s t : State} (h : OnlyPower s t) (e : AlarmId) : OnlyPower s (State.unsuppress t e) :=
  h.trans (OnlyAlarms.unsuppress (.refl t) e).power

theorem OnlyPower.flagEntries {s t : State} (h : OnlyPower s t) (es : List AlarmId) (v : Bool) :
    OnlyPower s (State.flagEntries t es v) :=
  h.trans (OnlyAlarms.flagEntries (.refl t) es v).power

theorem OnlyPower.suppressTrain {s t : State} (h : OnlyPower s t) (k : TrainId) (v : Bool) :
    OnlyPower s (State.suppressTrain t k v) :=
  h.trans (OnlyAlarms.suppressTrain (.refl t) k v).power

theorem OnlyPower.firstTrainSet {s t : State} (h : OnlyPower s t) (k : TrainId) (f : TrainFields) :
    OnlyPower s (State.firstTrainSet t k f) := by
  unfold State.firstTrainSet
  try dsimp only
  repeat' (first
    | (with_reducible exact h) | (with_reducible apply OnlyPower.suppressTrain)
    | (with_reducible apply OnlyPower.pacingPeriod) | (with_reducible apply OnlyPower.enterPump))

theorem OnlyPower.takeTrainSet {s t : State} (h : OnlyPower s t) (k : TrainId) (f : TrainFields) :
    OnlyPower s (State.takeTrainSet t k f) := by
  unfold State.takeTrainSet
  try dsimp only
  repeat' (first
    | (with_reducible exact h) | (with_reducible apply OnlyPower.setTrain)
    | (with_reducible apply OnlyPower.setBoost) | (with_reducible apply OnlyPower.firstTrainSet)
    | (with_reducible apply OnlyPower.writePump) | (with_reducible apply OnlyPower.reclaim) | split)

theorem OnlyPower.takeStormSet {s t : State} (h : OnlyPower s t) (f : StormFields) :
    OnlyPower s (State.takeStormSet t f) := by
  unfold State.takeStormSet
  try dsimp only
  repeat' (first
    | (with_reducible exact h) | (with_reducible apply OnlyPower.setPlant))

theorem OnlyPower.trainSecond {s t : State} (h : OnlyPower s t) (k : TrainId) :
    OnlyPower s (State.trainSecond k t) := by
  unfold State.trainSecond
  try dsimp only
  repeat' (first
    | (with_reducible exact h) | (with_reducible apply OnlyPower.pacingPeriod) | split)

theorem OnlyControl.setHeader {s t : State} (h : OnlyControl s t) (d : Header) :
    OnlyControl s (State.setHeader t d) := h.trans rfl

theorem OnlyControl.setSlot {s t : State} (h : OnlyControl s t) (q : SlotId) (r : Slot) :
    OnlyControl s (State.setSlot t q r) :=
  h.trans (OnlyAir.setSlot (.refl t) q r).control

theorem OnlyControl.updateSlot {s t : State} (h : OnlyControl s t) (q : Nat) (f : Slot → Slot) :
    OnlyControl s (State.updateSlot t q f) :=
  h.trans (OnlyAir.updateSlot (.refl t) q f).control

theorem OnlyControl.writeSlot {s t : State} (h : OnlyControl s t) (q value : Nat) (valid : Bool) :
    OnlyControl s (State.writeSlot t q value valid) :=
  h.trans (OnlyAir.writeSlot (.refl t) q value valid).control

theorem OnlyControl.writeCommon {s t : State} (h : OnlyControl s t) (b : BlowerId) :
    OnlyControl s (State.writeCommon b t) := by
  unfold State.writeCommon
  try dsimp only
  repeat' (first
    | (with_reducible exact h) | (with_reducible apply OnlyControl.writeSlot) | split)

theorem OnlyControl.recomputeRange {s t : State} (h : OnlyControl s t) :
    OnlyControl s (State.recomputeRange t) := by
  unfold State.recomputeRange
  try dsimp only
  repeat' (first
    | (with_reducible exact h) | (with_reducible apply OnlyControl.writeCommon)
    | (with_reducible apply OnlyControl.forAll) | (intro _ _ h) | split
    | (with_reducible apply OnlyControl.with_header))

theorem OnlyControl.retime {s t : State} (h : OnlyControl s t) (restartShortfall restartSurplus : Bool) :
    OnlyControl s (State.retime t restartShortfall restartSurplus) :=
  h.trans (OnlyAir.retime (.refl t) restartShortfall restartSurplus).control

theorem OnlyControl.notify {s t : State} (h : OnlyControl s t) (src : Source) (c : Cause) :
    OnlyControl s (State.notify t src c) :=
  h.trans (OnlyAlarms.notify (.refl t) src c).control

theorem OnlyControl.record {s t : State} (h : OnlyControl s t) (e : AlarmId) (tr : Transition) :
    OnlyControl s (State.record t e tr) :=
  h.trans (OnlyAlarms.record (.refl t) e tr).control

theorem OnlyControl.setEntry {s t : State} (h : OnlyControl s t) (e : AlarmId) (r : Entry) :
    OnlyControl s (State.setEntry t e r) :=
  h.trans (OnlyAlarms.setEntry (.refl t) e r).control

theorem OnlyControl.presentTrigger {s t : State} (h : OnlyControl s t) (src : TriggerSource) (concerns : Channel → Bool) :
    OnlyControl s (State.presentTrigger t src concerns) :=
  h.trans (OnlyAlarms.presentTrigger (.refl t) src concerns).control

theorem OnlyControl.raise {s t : State} (h : OnlyControl s t) (e : AlarmId) : OnlyControl s (State.raise t e) :=
  h.trans (OnlyAlarms.raise (.refl t) e).control

theorem OnlyControl.clearingEnds {s t : State} (h : OnlyControl s t) (e : AlarmId) :
    OnlyControl s (State.clearingEnds t e) :=
  h.trans (OnlyAlarms.clearingEnds (.refl t) e).control

theorem OnlyControl.startOnDelay {s t : State} (h : OnlyControl s t) (e : AlarmId) :
    OnlyControl s (State.startOnDelay t e) :=
  h.trans (OnlyAlarms.startOnDelay (.refl t) e).control

theorem OnlyControl.actOn {s t : State} (h : OnlyControl s t) (e : AlarmId) : OnlyControl s (State.actOn t e) :=
  h.trans (OnlyAlarms.actOn (.refl t) e).control

theorem OnlyControl.post {s t : State} (h : OnlyControl s t) (e : AlarmId) (v : Bool) :
    OnlyControl s (State.post t e v) :=
  h.trans (OnlyAlarms.post (.refl t) e v).control

theorem OnlyControl.testDeficit {s t : State} (h : OnlyControl s t) : OnlyControl s (State.testDeficit t) :=
  h.trans (OnlyAir.testDeficit (.refl t)).control

theorem OnlyControl.serve {s t : State} (h : OnlyControl s t) : OnlyControl s (State.serve t) :=
  h.trans (OnlyAir.serve (.refl t)).control

theorem OnlyControl.addCapacity {s t : State} (h : OnlyControl s t) (b : BlowerId) (rated : Nat) :
    OnlyControl s (State.addCapacity t b rated) :=
  h.trans (OnlyAir.addCapacity (.refl t) b rated).control

theorem OnlyControl.joinOrder {s t : State} (h : OnlyControl s t) (b : BlowerId) (rated : Nat) :
    OnlyControl s (State.joinOrder t b rated) := by
  unfold State.joinOrder
  try dsimp only
  repeat' (first
    | (with_reducible exact h) | (with_reducible apply OnlyControl.recomputeRange)
    | (with_reducible apply OnlyControl.addCapacity) | (with_reducible apply OnlyControl.with_online))

theorem OnlyControl.leaveOrder {s t : State} (h : OnlyControl s t) (b : BlowerId) :
    OnlyControl s (State.leaveOrder t b) := by
  unfold State.leaveOrder
  try dsimp only
  repeat' (first
    | (with_reducible exact h) | (with_reducible apply OnlyControl.recomputeRange)
    | (with_reducible apply OnlyControl.with_online))

theorem OnlyControl.setBlower {s t : State} (h : OnlyControl s t) (b : BlowerId) (r : Blower) :
    OnlyControl s (State.setBlower t b r) :=
  h.trans (OnlyPower.setBlower (.refl t) b r).control

theorem OnlyControl.invalidateSlot {s t : State} (h : OnlyControl s t) (q : Nat) :
    OnlyControl s (State.invalidateSlot t q) :=
  h.trans (OnlyAir.invalidateSlot (.refl t) q).control

theorem OnlyControl.writeBlower {s t : State} (h : OnlyControl s t) (b : BlowerId) :
    OnlyControl s (State.writeBlower t b) :=
  h.trans (OnlyPower.writeBlower (.refl t) b).control

theorem OnlyControl.enterBlower {s t : State} (h : OnlyControl s t) (b : BlowerId) (r : Blower) :
    OnlyControl s (State.enterBlower t b r) :=
  h.trans (OnlyPower.enterBlower (.refl t) b r).control

theorem OnlyControl.claimFreeze {s t : State} (h : OnlyControl s t) (n : Nat) :
    OnlyControl s (State.claimFreeze t n) :=
  h.trans (OnlyAir.claimFreeze (.refl t) n).control

theorem OnlyControl.enterLoading {s t : State} (h : OnlyControl s t) (b : BlowerId) (origin : Origin) (copy : SeqFields) :
    OnlyControl s (State.enterLoading t b origin copy) := by
  unfold State.enterLoading
  try dsimp only
  repeat' (first
    | (with_reducible exact h) | (with_reducible apply OnlyControl.enterBlower)
    | (with_reducible apply OnlyControl.claimFreeze))

theorem OnlyControl.setBudget {s t : State} (h : OnlyControl s t) (u : Budget) :
    OnlyControl s (State.setBudget t u) :=
  h.trans (OnlyPower.setBudget (.refl t) u).control

theorem OnlyControl.mapCommit {s t : State} (h : OnlyControl s t) (d : Holder) (f : Commit → Commit) :
    OnlyControl s (State.mapCommit t d f) :=
  h.trans (OnlyPower.mapCommit (.refl t) d f).control

theorem OnlyControl.servePower {s t : State} (h : OnlyControl s t) : OnlyControl s (State.servePower t) :=
  h.trans (OnlyPower.servePower (.refl t)).control

theorem OnlyControl.setTrain {s t : State} (h : OnlyControl s t) (k : TrainId) (r : Train) :
    OnlyControl s (State.setTrain t k r) :=
  h.trans (OnlyPower.setTrain (.refl t) k r).control

theorem OnlyControl.appendCommit {s t : State} (h : OnlyControl s t) (e : Commit) :
    OnlyControl s (State.appendCommit t e) :=
  h.trans (OnlyPower.appendCommit (.refl t) e).control

theorem OnlyControl.blowerAdmitted {s t : State} (h : OnlyControl s t) (b : BlowerId) :
    OnlyControl s (State.blowerAdmitted t b) :=
  h.trans (OnlyPower.blowerAdmitted (.refl t) b).control

theorem OnlyControl.writePump {s t : State} (h : OnlyControl s t) (k : TrainId) :
    OnlyControl s (State.writePump t k) :=
  h.trans (OnlyPower.writePump (.refl t) k).control

theorem OnlyControl.postRasLimited {s t : State} (h : OnlyControl s t) (k : TrainId) :
    OnlyControl s (State.postRasLimited t k) :=
  h.trans (OnlyPower.postRasLimited (.refl t) k).control

theorem OnlyControl.enterPump {s t : State} (h : OnlyControl s t) (k : TrainId) (r : Train) :
    OnlyControl s (State.enterPump t k r) :=
  h.trans (OnlyPower.enterPump (.refl t) k r).control

theorem OnlyControl.pumpAdmitted {s t : State} (h : OnlyControl s t) (k : TrainId) :
    OnlyControl s (State.pumpAdmitted t k) :=
  h.trans (OnlyPower.pumpAdmitted (.refl t) k).control

theorem OnlyControl.givePower {s t : State} (h : OnlyControl s t) (d : Holder) (kw : Nat) :
    OnlyControl s (State.givePower t d kw) :=
  h.trans (OnlyPower.givePower (.refl t) d kw).control

theorem OnlyControl.withdrawPower {s t : State} (h : OnlyControl s t) (d : Holder) :
    OnlyControl s (State.withdrawPower t d) :=
  h.trans (OnlyPower.withdrawPower (.refl t) d).control

theorem OnlyControl.requestPower {s t : State} (h : OnlyControl s t) (d : Holder) (cls kw : Nat) :
    OnlyControl s (State.requestPower t d cls kw) :=
  h.trans (OnlyPower.requestPower (.refl t) d cls kw).control

theorem OnlyControl.presentPumpStart {s t : State} (h : OnlyControl s t) (k : TrainId) :
    OnlyControl s (State.presentPumpStart t k) :=
  h.trans (OnlyPower.presentPumpStart (.refl t) k).control

theorem OnlyControl.liftPump {s t : State} (h : OnlyControl s t) (k : TrainId) :
    OnlyControl s (State.liftPump k t) :=
  h.trans (OnlyPower.liftPump (.refl t) k).control

theorem OnlyControl.endShedding {s t : State} (h : OnlyControl s t) : OnlyControl s (State.endShedding t) :=
  h.trans (OnlyPower.endShedding (.refl t)).control

theorem OnlyControl.testPower {s t : State} (h : OnlyControl s t) : OnlyControl s (State.testPower t) :=
  h.trans (OnlyPower.testPower (.refl t)).control

theorem OnlyControl.convertPower {s t : State} (h : OnlyControl s t) (b : BlowerId) (kw : Nat) :
    OnlyControl s (State.convertPower t b kw) :=
  h.trans (OnlyPower.convertPower (.refl t) b kw).control

theorem OnlyControl.changed {s t : State} (h : OnlyControl s t) (b : BlowerId) : OnlyControl s (State.changed t b) :=
  h.trans (OnlyPower.changed (.refl t) b).control

theorem OnlyControl.goOnline {s t : State} (h : OnlyControl s t) (b : BlowerId) :
    OnlyControl s (State.goOnline t b) := by
  unfold State.goOnline
  try dsimp only
  repeat' (first
    | (with_reducible exact h) | (with_reducible apply OnlyControl.setBlower)
    | (with_reducible apply OnlyControl.convertPower) | (with_reducible apply OnlyControl.joinOrder)
    | (with_reducible apply OnlyControl.changed) | (with_reducible apply OnlyControl.writeBlower) | split)

theorem OnlyControl.releasePower {s t : State} (h : OnlyControl s t) (d : Holder) :
    OnlyControl s (State.releasePower t d) :=
  h.trans (OnlyPower.releasePower (.refl t) d).control

theorem OnlyControl.mapEntry {s t : State} (h : OnlyControl s t) (l : LaneId) (f : AirEntry → AirEntry) :
    OnlyControl s (State.mapEntry t l f) :=
  h.trans (OnlyAir.mapEntry (.refl t) l f).control

theorem OnlyControl.setGrant {s t : State} (h : OnlyControl s t) (l : LaneId) (g : Nat) :
    OnlyControl s (State.setGrant t l g) :=
  h.trans (OnlyAir.setGrant (.refl t) l g).control

theorem OnlyControl.cutLane {s t : State} (h : OnlyControl s t) (floor : Nat) (requeue : Bool) (l : LaneId) :
    OnlyControl s (State.cutLane t floor requeue l) :=
  h.trans (OnlyAir.cutLane (.refl t) floor requeue l).control

theorem OnlyControl.cut {s t : State} (h : OnlyControl s t) : OnlyControl s (State.cut t) :=
  h.trans (OnlyAir.cut (.refl t)).control

theorem OnlyControl.dropCapacity {s t : State} (h : OnlyControl s t) (b : BlowerId) :
    OnlyControl s (State.dropCapacity t b) :=
  h.trans (OnlyAir.dropCapacity (.refl t) b).control

theorem OnlyControl.loseCapacity {s t : State} (h : OnlyControl s t) (b : BlowerId) :
    OnlyControl s (State.loseCapacity t b) :=
  h.trans (OnlyAir.loseCapacity (.refl t) b).control

theorem OnlyControl.tripBlower {s t : State} (h : OnlyControl s t) (b : BlowerId) :
    OnlyControl s (State.tripBlower t b) := by
  unfold State.tripBlower
  try dsimp only
  repeat' (first
    | (with_reducible exact h) | (with_reducible apply OnlyControl.post)
    | (with_reducible apply OnlyControl.releasePower) | (with_reducible apply OnlyControl.leaveOrder)
    | (with_reducible apply OnlyControl.changed) | (with_reducible apply OnlyControl.enterBlower)
    | (with_reducible apply OnlyControl.loseCapacity))

theorem OnlyControl.beginStop {s t : State} (h : OnlyControl s t) (b : BlowerId) (loss : Bool) :
    OnlyControl s (State.beginStop t b loss) := by
  unfold State.beginStop
  try dsimp only
  repeat' (first
    | (with_reducible exact h) | (with_reducible apply OnlyControl.post)
    | (with_reducible apply OnlyControl.leaveOrder) | (with_reducible apply OnlyControl.changed)
    | (with_reducible apply OnlyControl.enterBlower) | (with_reducible apply OnlyControl.loseCapacity) | split)

theorem OnlyControl.setPumpSpeed {s t : State} (h : OnlyControl s t) (k : TrainId) (speed : Nat) :
    OnlyControl s (State.setPumpSpeed t k speed) :=
  h.trans (OnlyPower.setPumpSpeed (.refl t) k speed).control

theorem OnlyControl.capPump {s t : State} (h : OnlyControl s t) (k : TrainId) : OnlyControl s (State.capPump k t) :=
  h.trans (OnlyPower.capPump (.refl t) k).control

theorem OnlyControl.shedPump {s t : State} (h : OnlyControl s t) (k : TrainId) :
    OnlyControl s (State.shedPump k t) :=
  h.trans (OnlyPower.shedPump (.refl t) k).control

theorem OnlyControl.enterShedding {s t : State} (h : OnlyControl s t) : OnlyControl s (State.enterShedding t) :=
  h.trans (OnlyPower.enterShedding (.refl t)).control

theorem OnlyControl.adoptPower {s t : State} (h : OnlyControl s t) (d : Holder) (kind : CommitKind) (kw : Nat) :
    OnlyControl s (State.adoptPower t d kind kw) :=
  h.trans (OnlyPower.adoptPower (.refl t) d kind kw).control

theorem OnlyControl.adoptBlower {s t : State} (h : OnlyControl s t) (b : BlowerId) :
    OnlyControl s (State.adoptBlower t b) := by
  unfold State.adoptBlower
  try dsimp only
  repeat' (first
    | (with_reducible exact h) | (with_reducible apply OnlyControl.setBlower)
    | (with_reducible apply OnlyControl.adoptPower) | (with_reducible apply OnlyControl.joinOrder)
    | (with_reducible apply OnlyControl.changed) | (with_reducible apply OnlyControl.writeBlower) | split)

theorem OnlyControl.testDeferral {s t : State} (h : OnlyControl s t) (b : BlowerId) :
    OnlyControl s (State.testDeferral t b) :=
  h.trans (OnlyPower.testDeferral (.refl t) b).control

theorem OnlyControl.enterWaitPower {s t : State} (h : OnlyControl s t) (b : BlowerId) (origin : Origin) (copy : SeqFields) :
    OnlyControl s (State.enterWaitPower t b origin copy) :=
  h.trans (OnlyPower.enterWaitPower (.refl t) b origin copy).control

theorem OnlyControl.startBlower {s t : State} (h : OnlyControl s t) (b : BlowerId) (origin : Origin) :
    OnlyControl s (State.startBlower t b origin) :=
  h.trans (OnlyPower.startBlower (.refl t) b origin).control

theorem OnlyControl.stageIn {s t : State} (h : OnlyControl s t) :
    OnlyControl s (State.stageIn t) := by
  unfold State.stageIn
  try dsimp only
  repeat' (first
    | (with_reducible exact h) | (with_reducible apply OnlyControl.startBlower) | split)

theorem OnlyAir.offerWithdrawal {s t u : State} (h : OnlyAir s t) (b : BlowerId)
    (taken : t.offerWithdrawal b = some u) : OnlyAir s u := by
  unfold State.offerWithdrawal at taken
  split at taken
  · cases taken
  · split at taken
    · cases taken
      exact (h.dropCapacity b).retime _ _
    · cases taken

theorem OnlyControl.offerLast {s t : State} (h : OnlyControl s t) : OnlyControl s t.offerLast := by
  unfold State.offerLast
  split
  · exact h
  · split
    · next e => exact (h.trans (OnlyAir.offerWithdrawal (.refl t) _ e).control).beginStop _ _
    · exact h

theorem OnlyControl.forcedStop {s t : State} (h : OnlyControl s t) :
    OnlyControl s (State.forcedStop t) := by
  unfold State.forcedStop
  try dsimp only
  repeat' (first
    | (with_reducible exact h) | (with_reducible apply OnlyControl.beginStop) | split)

theorem OnlyControl.surge {s t : State} (h : OnlyControl s t) (b : BlowerId) :
    OnlyControl s (State.surge t b) := by
  unfold State.surge
  try dsimp only
  repeat' (first
    | (with_reducible exact h) | (with_reducible apply OnlyControl.post)
    | (with_reducible apply OnlyControl.offerLast) | (with_reducible apply OnlyControl.enterBlower) | split)

theorem OnlyControl.countLowFlow {s t : State} (h : OnlyControl s t) (b : BlowerId) (c : BlowerFields) (flow : Option Int) :
    OnlyControl s (State.countLowFlow t b c flow) := by
  unfold State.countLowFlow
  try dsimp only
  repeat' (first
    | (with_reducible exact h) | (with_reducible apply OnlyControl.setBlower)
    | (with_reducible apply OnlyControl.surge) | split)

theorem OnlyControl.countRunning {s t : State} (h : OnlyControl s t) (b : BlowerId) (running : Bool) :
    OnlyControl s (State.countRunning t b running) := by
  unfold State.countRunning
  try dsimp only
  repeat' (first
    | (with_reducible exact h) | (with_reducible apply OnlyControl.setBlower)
    | (with_reducible apply OnlyControl.adoptBlower) | split)

theorem OnlyControl.enterRamp {s t : State} (h : OnlyControl s t) (b : BlowerId) (origin : Origin) (copy : SeqFields) :
    OnlyControl s (State.enterRamp t b origin copy) :=
  h.trans (OnlyPower.enterRamp (.refl t) b origin copy).control

theorem OnlyControl.failAttempt {s t : State} (h : OnlyControl s t) (b : BlowerId) (cause : FailureCause) :
    OnlyControl s (State.failAttempt t b cause) :=
  h.trans (OnlyPower.failAttempt (.refl t) b cause).control

theorem OnlyControl.enterOff {s t : State} (h : OnlyControl s t) (b : BlowerId) :
    OnlyControl s (State.enterOff t b) :=
  h.trans (OnlyPower.enterOff (.refl t) b).control

theorem OnlyControl.finishStop {s t : State} (h : OnlyControl s t) (b : BlowerId) :
    OnlyControl s (State.finishStop t b) :=
  h.trans (OnlyPower.finishStop (.refl t) b).control

theorem OnlyControl.setBlind {s t : State} (h : OnlyControl s t) (b : BlowerId) (v : Bool) :
    OnlyControl s (State.setBlind t b v) :=
  h.trans (OnlyPower.setBlind (.refl t) b v).control

theorem OnlyControl.testRunning {s t : State} (h : OnlyControl s t) (b : BlowerId) (sample : Option Bool) :
    OnlyControl s (State.testRunning t b sample) := by
  unfold State.testRunning
  try dsimp only
  repeat' (first
    | (with_reducible exact h) | (with_reducible apply OnlyControl.setBlower)
    | (with_reducible apply OnlyControl.releasePower) | (with_reducible apply OnlyControl.enterRamp)
    | (with_reducible apply OnlyControl.failAttempt) | (with_reducible apply OnlyControl.enterOff)
    | (with_reducible apply OnlyControl.tripBlower) | (with_reducible apply OnlyControl.finishStop)
    | (with_reducible apply OnlyControl.adoptBlower) | (with_reducible apply OnlyControl.setBlind)
    | (with_reducible apply OnlyControl.countRunning) | split)

theorem OnlyControl.enterMotorStart {s t : State} (h : OnlyControl s t) (b : BlowerId) (origin : Origin) (copy : SeqFields) :
    OnlyControl s (State.enterMotorStart t b origin copy) :=
  h.trans (OnlyPower.enterMotorStart (.refl t) b origin copy).control

theorem OnlyControl.enterRunDown {s t : State} (h : OnlyControl s t) (b : BlowerId) :
    OnlyControl s (State.enterRunDown t b) :=
  h.trans (OnlyPower.enterRunDown (.refl t) b).control

theorem OnlyControl.testBlowoff {s t : State} (h : OnlyControl s t) (b : BlowerId) (opening : Option Int) :
    OnlyControl s (State.testBlowoff t b opening) := by
  unfold State.testBlowoff
  try dsimp only
  repeat' (first
    | (with_reducible exact h) | (with_reducible apply OnlyControl.enterMotorStart)
    | (with_reducible apply OnlyControl.goOnline) | (with_reducible apply OnlyControl.enterRunDown) | split)

theorem OnlyControl.testFlow {s t : State} (h : OnlyControl s t) (b : BlowerId) (c : BlowerFields) (flow : Option Int) :
    OnlyControl s (State.testFlow t b c flow) := by
  unfold State.testFlow
  try dsimp only
  repeat' (first
    | (with_reducible exact h) | (with_reducible apply OnlyControl.enterLoading)
    | (with_reducible apply OnlyControl.countLowFlow) | split)

theorem OnlyControl.endBlowoffTime {s t : State} (h : OnlyControl s t) (b : BlowerId) (c : BlowerFields) :
    OnlyControl s (State.endBlowoffTime t b c) := by
  unfold State.endBlowoffTime
  try dsimp only
  repeat' (first
    | (with_reducible exact h) | (with_reducible apply OnlyControl.enterMotorStart)
    | (with_reducible apply OnlyControl.goOnline) | (with_reducible apply OnlyControl.failAttempt) | split)

theorem OnlyControl.failStop {s t : State} (h : OnlyControl s t) (b : BlowerId) :
    OnlyControl s (State.failStop t b) :=
  h.trans (OnlyPower.failStop (.refl t) b).control

theorem OnlyControl.endStepTime {s t : State} (h : OnlyControl s t) (b : BlowerId) (c : BlowerFields) :
    OnlyControl s (State.endStepTime t b c) := by
  unfold State.endStepTime
  try dsimp only
  repeat' (first
    | (with_reducible exact h) | (with_reducible apply OnlyControl.setBlower)
    | (with_reducible apply OnlyControl.failAttempt) | (with_reducible apply OnlyControl.enterRunDown)
    | (with_reducible apply OnlyControl.failStop) | (with_reducible apply OnlyControl.endBlowoffTime) | split)

theorem OnlyControl.endSurgeHold {s t : State} (h : OnlyControl s t) (b : BlowerId) :
    OnlyControl s (State.endSurgeHold t b) :=
  h.trans (OnlyPower.endSurgeHold (.refl t) b).control

theorem OnlyControl.endSurgeWatch {s t : State} (h : OnlyControl s t) (b : BlowerId) :
    OnlyControl s (State.endSurgeWatch t b) :=
  h.trans (OnlyPower.endSurgeWatch (.refl t) b).control

theorem OnlyControl.countBlowerTime {s t : State} (h : OnlyControl s t) (b : BlowerId) (c : BlowerFields) :
    OnlyControl s (State.countBlowerTime t b c) := by
  unfold State.countBlowerTime
  try dsimp only
  repeat' (first
    | (with_reducible exact h) | (with_reducible apply OnlyControl.setBlower)
    | (with_reducible apply OnlyControl.surge) | (with_reducible apply OnlyControl.endSurgeHold)
    | (with_reducible apply OnlyControl.endSurgeWatch) | (with_reducible apply OnlyControl.endStepTime) | split)

theorem OnlyControl.testRetry {s t : State} (h : OnlyControl s t) (b : BlowerId) (sample : Option Bool) :
    OnlyControl s (State.testRetry t b sample) := by
  unfold State.testRetry
  try dsimp only
  repeat' (first
    | (with_reducible exact h) | (with_reducible apply OnlyControl.enterWaitPower) | split)

theorem OnlyControl.blowerFrame {s t : State} (h : OnlyControl s t) (d : HubId) (before : State) (b : BlowerId) :
    OnlyControl s (State.blowerFrame d before b t) := by
  unfold State.blowerFrame
  try dsimp only
  repeat' (first
    | (with_reducible exact h) | (with_reducible apply OnlyControl.surge)
    | (with_reducible apply OnlyControl.testRunning) | (with_reducible apply OnlyControl.testBlowoff)
    | (with_reducible apply OnlyControl.testFlow) | (with_reducible apply OnlyControl.countBlowerTime)
    | (with_reducible apply OnlyControl.testRetry) | split)

theorem OnlyControl.unsuppress {s t : State} (h : OnlyControl s t) (e : AlarmId) :
    OnlyControl s (State.unsuppress t e) :=
  h.trans (OnlyAlarms.unsuppress (.refl t) e).control

theorem OnlyControl.flagEntries {s t : State} (h : OnlyControl s t) (es : List AlarmId) (v : Bool) :
    OnlyControl s (State.flagEntries t es v) :=
  h.trans (OnlyAlarms.flagEntries (.refl t) es v).control

theorem OnlyControl.suppressBlower {s t : State} (h : OnlyControl s t) (b : BlowerId) (v : Bool) :
    OnlyControl s (State.suppressBlower t b v) :=
  h.trans (OnlyAlarms.suppressBlower (.refl t) b v).control

theorem OnlyControl.releaseSlot {s t : State} (h : OnlyControl s t) (q : Nat) :
    OnlyControl s (State.releaseSlot t q) :=
  h.trans (OnlyAir.releaseSlot (.refl t) q).control

theorem OnlyControl.claimSlot {s t : State} (h : OnlyControl s t) (q : Nat) (c : Claimant) :
    OnlyControl s (State.claimSlot t q c) :=
  h.trans (OnlyAir.claimSlot (.refl t) q c).control

theorem OnlyControl.reclaim {s t : State} (h : OnlyControl s t) (old new : List (Nat × Claimant)) :
    OnlyControl s (State.reclaim t old new) :=
  h.trans (OnlyPower.reclaim (.refl t) old new).control

theorem OnlyControl.takeBlowerSet {s t : State} (h : OnlyControl s t) (b : BlowerId) (f : BlowerFields) :
    OnlyControl s (State.takeBlowerSet t b f) := by
  unfold State.takeBlowerSet
  try dsimp only
  repeat' (first
    | (with_reducible exact h) | (with_reducible apply OnlyControl.suppressBlower)
    | (with_reducible apply OnlyControl.setBlower) | (with_reducible apply OnlyControl.recomputeRange)
    | (with_reducible apply OnlyControl.writeBlower) | (with_reducible apply OnlyControl.reclaim) | split)

theorem OnlyControl.shortfallEnds {s t : State} (h : OnlyControl s t) :
    OnlyControl s (State.shortfallEnds t) := by
  unfold State.shortfallEnds
  try dsimp only
  repeat' (first
    | (with_reducible exact h) | (with_reducible apply OnlyControl.stageIn)
    | (with_reducible apply OnlyControl.with_air))

theorem OnlyControl.surplusEnds {s t : State} (h : OnlyControl s t) :
    OnlyControl s (State.surplusEnds t) := by
  unfold State.surplusEnds
  try dsimp only
  repeat' (first
    | (with_reducible exact h) | (with_reducible apply OnlyControl.offerLast)
    | (with_reducible apply OnlyControl.with_air))

theorem OnlyControl.shedExpires {s t : State} (h : OnlyControl s t) :
    OnlyControl s (State.shedExpires t) := by
  unfold State.shedExpires
  try dsimp only
  repeat' (first
    | (with_reducible exact h) | (with_reducible apply OnlyControl.setBudget)
    | (with_reducible apply OnlyControl.forcedStop) | split)

theorem OnlyControl.runLoop {s t : State} (h : OnlyControl s t) (f : HeaderFields) :
    OnlyControl s (State.runLoop t f) := by
  unfold State.runLoop
  try dsimp only
  repeat' (first
    | (with_reducible exact h) | (with_reducible apply OnlyControl.setHeader)
    | (with_reducible apply OnlyControl.writeCommon) | (with_reducible apply OnlyControl.forAll)
    | (intro _ _ h) | split)

theorem OnlyControl.headerPeriod {s t : State} (h : OnlyControl s t) :
    OnlyControl s (State.headerPeriod t) := by
  unfold State.headerPeriod
  try dsimp only
  repeat' (first
    | (with_reducible exact h) | (with_reducible apply OnlyControl.post)
    | (with_reducible apply OnlyControl.setHeader) | (with_reducible apply OnlyControl.runLoop) | split)

theorem OnlyControl.movPeriod {s t : State} (h : OnlyControl s t) :
    OnlyControl s (State.movPeriod t) := by
  unfold State.movPeriod
  try dsimp only
  repeat' (first
    | (with_reducible exact h) | (with_reducible apply OnlyControl.setHeader) | split)

theorem OnlyControl.takeHeaderSet {s t : State} (h : OnlyControl s t) (f : HeaderFields) :
    OnlyControl s (State.takeHeaderSet t f) := by
  unfold State.takeHeaderSet
  try dsimp only
  repeat' (first
    | (with_reducible exact h) | (with_reducible apply OnlyControl.setHeader)
    | (with_reducible apply OnlyControl.headerPeriod) | (with_reducible apply OnlyControl.movPeriod) | split)

theorem OnlyControl.setLane {s t : State} (h : OnlyControl s t) (l : LaneId) (r : Lane) :
    OnlyControl s (State.setLane t l r) :=
  h.trans (OnlyAir.setLane (.refl t) l r).control

theorem OnlyControl.suppressLane {s t : State} (h : OnlyControl s t) (l : LaneId) (v : Bool) :
    OnlyControl s (State.suppressLane t l v) :=
  h.trans (OnlyAlarms.suppressLane (.refl t) l v).control

theorem OnlyControl.dropValve {s t : State} (h : OnlyControl s t) (l : LaneId) :
    OnlyControl s (State.dropValve t l) :=
  h.trans (OnlyAir.dropValve (.refl t) l).control

theorem OnlyControl.settleAir {s t : State} (h : OnlyControl s t) : OnlyControl s (State.settleAir t) :=
  h.trans (OnlyAir.settleAir (.refl t)).control

theorem OnlyControl.dropEntry {s t : State} (h : OnlyControl s t) (l : LaneId) :
    OnlyControl s (State.dropEntry t l) :=
  h.trans (OnlyAir.dropEntry (.refl t) l).control

theorem OnlyControl.withdraw {s t : State} (h : OnlyControl s t) (l : LaneId) : OnlyControl s (State.withdraw t l) :=
  h.trans (OnlyAir.withdraw (.refl t) l).control

theorem OnlyControl.requestAir {s t : State} (h : OnlyControl s t) (l : LaneId) (amount : Nat) :
    OnlyControl s (State.requestAir t l amount) :=
  h.trans (OnlyAir.requestAir (.refl t) l amount).control

theorem OnlyControl.enterAdopting {s t : State} (h : OnlyControl s t) (l : LaneId) (target : RunMode) :
    OnlyControl s (State.enterAdopting t l target) :=
  h.trans (OnlyAir.enterAdopting (.refl t) l target).control

theorem OnlyControl.wake {s t : State} (h : OnlyControl s t) (l : LaneId) : OnlyControl s (State.wake t l) :=
  h.trans (OnlyAir.wake (.refl t) l).control

theorem OnlyControl.setPlant {s t : State} (h : OnlyControl s t) (p : Plant) : OnlyControl s (State.setPlant t p) :=
  h.trans (OnlyPower.setPlant (.refl t) p).control

theorem OnlyControl.stormEntry {s t : State} (h : OnlyControl s t) :
    OnlyControl s (State.stormEntry t) := by
  unfold State.stormEntry
  try dsimp only
  repeat' (first
    | (with_reducible exact h) | (with_reducible apply OnlyControl.post)
    | (with_reducible apply OnlyControl.presentTrigger) | (with_reducible apply OnlyControl.wake)
    | (with_reducible apply OnlyControl.setPlant) | (with_reducible apply OnlyControl.forAll) | (intro _ _ h))

theorem OnlyControl.postTrim {s t : State} (h : OnlyControl s t) (l : LaneId) : OnlyControl s (State.postTrim t l) :=
  h.trans (OnlyAir.postTrim (.refl t) l).control

theorem OnlyControl.writeValve {s t : State} (h : OnlyControl s t) (l : LaneId) (value : Nat) :
    OnlyControl s (State.writeValve t l value) :=
  h.trans (OnlyAir.writeValve (.refl t) l value).control

theorem OnlyControl.releaseAir {s t : State} (h : OnlyControl s t) (l : LaneId) (value : Nat) :
    OnlyControl s (State.releaseAir t l value) :=
  h.trans (OnlyAir.releaseAir (.refl t) l value).control

theorem OnlyControl.setHoldMark {s t : State} (h : OnlyControl s t) (l : LaneId) (v : Bool) :
    OnlyControl s (State.setHoldMark t l v) :=
  h.trans (OnlyAir.setHoldMark (.refl t) l v).control

theorem OnlyControl.enterParked {s t : State} (h : OnlyControl s t) (l : LaneId) (mode : LaneMode) :
    OnlyControl s (State.enterParked t l mode) :=
  h.trans (OnlyAir.enterParked (.refl t) l mode).control

theorem OnlyControl.repark {s t : State} (h : OnlyControl s t) (l : LaneId) : OnlyControl s (State.repark t l) :=
  h.trans (OnlyAir.repark (.refl t) l).control

theorem OnlyControl.stormExit {s t : State} (h : OnlyControl s t) :
    OnlyControl s (State.stormExit t) := by
  unfold State.stormExit
  try dsimp only
  repeat' (first
    | (with_reducible exact h) | (with_reducible apply OnlyControl.post)
    | (with_reducible apply OnlyControl.repark) | (with_reducible apply OnlyControl.setPlant)
    | (with_reducible apply OnlyControl.forAll) | (intro _ _ h))

theorem OnlyControl.evaluateStorm {s t : State} (h : OnlyControl s t) :
    OnlyControl s (State.evaluateStorm t) := by
  unfold State.evaluateStorm
  try dsimp only
  repeat' (first
    | (with_reducible exact h) | (with_reducible apply OnlyControl.setPlant)
    | (with_reducible apply OnlyControl.stormEntry) | (with_reducible apply OnlyControl.stormExit) | split)

theorem OnlyControl.forceStorm {s t : State} (h : OnlyControl s t) (f : Force) :
    OnlyControl s (State.forceStorm t f) := by
  unfold State.forceStorm
  try dsimp only
  repeat' (first
    | (with_reducible exact h) | (with_reducible apply OnlyControl.setPlant)
    | (with_reducible apply OnlyControl.stormEntry) | (with_reducible apply OnlyControl.stormExit) | split)

theorem OnlyControl.countShortfall {s t : State} (h : OnlyControl s t) :
    OnlyControl s (State.countShortfall t) := by
  unfold State.countShortfall
  try dsimp only
  repeat' (first
    | (with_reducible exact h) | (with_reducible apply OnlyControl.shortfallEnds) | split
    | (with_reducible apply OnlyControl.with_air))

theorem OnlyControl.countSurplus {s t : State} (h : OnlyControl s t) :
    OnlyControl s (State.countSurplus t) := by
  unfold State.countSurplus
  try dsimp only
  repeat' (first
    | (with_reducible exact h) | (with_reducible apply OnlyControl.surplusEnds) | split
    | (with_reducible apply OnlyControl.with_air))

theorem OnlyControl.endFreeze {s t : State} (h : OnlyControl s t) : OnlyControl s (State.endFreeze t) :=
  h.trans (OnlyAir.endFreeze (.refl t)).control

theorem OnlyControl.countFreeze {s t : State} (h : OnlyControl s t) : OnlyControl s (State.countFreeze t) :=
  h.trans (OnlyAir.countFreeze (.refl t)).control

theorem OnlyControl.starve {s t : State} (h : OnlyControl s t) (l : LaneId) : OnlyControl s (State.starve t l) :=
  h.trans (OnlyAir.starve (.refl t) l).control

theorem OnlyControl.testStarvation {s t : State} (h : OnlyControl s t) : OnlyControl s (State.testStarvation t) :=
  h.trans (OnlyAir.testStarvation (.refl t)).control

theorem OnlyControl.refresh {s t : State} (h : OnlyControl s t) : OnlyControl s (State.refresh t) := h.trans rfl

theorem OnlyControl.airSecond {s t : State} (h : OnlyControl s t) :
    OnlyControl s (State.airSecond t) := by
  unfold State.airSecond
  try dsimp only
  repeat' (first
    | (with_reducible exact h) | (with_reducible apply OnlyControl.countShortfall)
    | (with_reducible apply OnlyControl.countSurplus) | (with_reducible apply OnlyControl.countFreeze)
    | (with_reducible apply OnlyControl.testStarvation) | (with_reducible apply OnlyControl.refresh))

theorem OnlyControl.headerSecond {s t : State} (h : OnlyControl s t) :
    OnlyControl s (State.headerSecond t) := by
  unfold State.headerSecond
  try dsimp only
  repeat' (first
    | (with_reducible exact h) | (with_reducible apply OnlyControl.headerPeriod)
    | (with_reducible apply OnlyControl.movPeriod) | split)

end Sys2Proof.Machine
end

