-- ==== Sys2Proof/Laws/Request.lean ====
section
/-! SUPPORT. How a request is taken, refused or not heard, how an event runs, and what the refresh of the lines does: the
lemmas a proof about a command begins with; the receiver's turns, and a body's bytes read back. -/

namespace Sys2Proof.Machine

/-! ### Objects by number -/

@[simp] theorem asId_val {k : Nat} (i : Fin k) : asId k i.val = some i := by simp [asId]

theorem asId_none {n k : Nat} (h : k ≤ n) : asId k n = none := by simp [asId]; omega

@[simp] theorem forObject_val {k : Nat} (i : Fin k) (f : Fin k → Verdict) : forObject k i.val f = f i := by
  simp [forObject]

theorem forObject_none {n k : Nat} (h : k ≤ n) (f : Fin k → Verdict) : forObject k n f = .refuse .range := by
  simp [forObject, asId_none h]

/-! ### The lines -/

theorem AlarmUnit.levelDue_refresh (u : AlarmUnit) : u.refresh.levelDue = u.levelDue := by
  show (if u.anyEntry (fun r => r.state == .activeUnack) then u.levelDue else none) = u.levelDue
  unfold AlarmUnit.levelDue
  split <;> simp_all

/-- The lines re-evaluated twice are the lines re-evaluated once. -/
theorem AlarmUnit.refresh_idem (u : AlarmUnit) : u.refresh.refresh = u.refresh := by
  have frames : (if u.refresh.beaconDue = .flashing then
      (if u.refresh.beacon = .flashing then u.refresh.beaconFrames else 0) else 0) = u.refresh.beaconFrames := by
    show (if u.beaconDue = .flashing then (if u.beaconDue = .flashing then u.refresh.beaconFrames else 0) else 0) = _
    by_cases h : u.beaconDue = .flashing
    · simp [h]
    · simp [AlarmUnit.refresh, h]
  show { u.refresh with
    silenced := u.refresh.levelDue, horn := u.refresh.hornDue u.refresh.levelDue, beacon := u.refresh.beaconDue,
    beaconFrames := (if u.refresh.beaconDue = .flashing then
      (if u.refresh.beacon = .flashing then u.refresh.beaconFrames else 0) else 0),
    dialOut := u.refresh.anyEntry (fun r => r.stage == 2) } = u.refresh
  rw [frames, AlarmUnit.levelDue_refresh]
  rfl

@[simp] theorem finish_pending (s t : State) : (finish s t).pending = s.pending := rfl
@[simp] theorem finish_held (s t : State) : (finish s t).held = t.held := rfl
@[simp] theorem finish_notices (s t : State) : (finish s t).notices = t.notices := rfl
@[simp] theorem finish_entry (s t : State) (e : AlarmId) : (finish s t).entry e = t.entry e := rfl
@[simp] theorem finish_history (s t : State) : (finish s t).alarm.history = t.alarm.history := rfl

/-- After any event the lines follow the records. -/
theorem finish_follows (s t : State) (h : t.held = false) : (finish s t).LinesFollow := by
  simp only [State.LinesFollow, finish, State.refresh, h]
  exact ⟨trivial, AlarmUnit.refresh_idem _⟩

/-- An event that touches neither the alarm unit nor the notices leaves the lines as they follow already. -/
theorem finish_eq {s t : State} (held : s.held = false) (h : s.LinesFollow) (alarm : t.alarm = s.alarm)
    (notices : t.notices = s.notices) (attn : t.attn = s.attn) (pending : t.pending = s.pending) : finish s t = t := by
  have follows : s.attn = (!s.notices.isEmpty) ∧ s.alarm.refresh = s.alarm := by
    simpa [State.LinesFollow, held] using h
  show { t with attn := !t.notices.isEmpty, alarm := t.alarm.refresh, pending := s.pending } = t
  rw [alarm, notices, follows.2, ← follows.1, ← attn, ← alarm, ← notices, ← pending]

/-- An event that changes nothing changes nothing. -/
theorem finish_self {s : State} (held : s.held = false) (h : s.LinesFollow) : finish s s = s :=
  finish_eq held h rfl rfl rfl rfl

/-- What an event leaves unchanged, its refresh does too. -/
theorem finish_alarms {s t : State} (h : OnlyAlarms s t) : OnlyAlarms s (finish s t) := by
  unfold OnlyAlarms at *; rw [h]; rfl
theorem finish_air {s t : State} (h : OnlyAir s t) : OnlyAir s (finish s t) := by
  unfold OnlyAir at *; rw [h]; rfl
theorem finish_power {s t : State} (h : OnlyPower s t) : OnlyPower s (finish s t) := by
  unfold OnlyPower at *; rw [h]; rfl
theorem finish_control {s t : State} (h : OnlyControl s t) : OnlyControl s (finish s t) := by
  unfold OnlyControl at *; rw [h]; rfl

/-! ### Requests and events -/

theorem State.Hears.listening {s : State} (h : s.Hears) : s.listening = true := by
  simp [State.listening, h.1.1.1, h.1.1.2, h.2]

theorem State.Hears.ready {s : State} (h : s.Hears) : s.Ready := h.1

theorem State.Ready.free {s : State} (h : s.Ready) : s.held = false ∧ s.restarting = false := h.1

theorem State.listening_iff {s : State} :
    s.listening = true ↔ s.held = false ∧ s.restarting = false ∧ s.rx = [] := by
  simp [State.listening, and_assoc]

/-- A length byte that the fields give, and a body a frame can hold, are no ground for a discard (R184, R191). -/
theorem badLength_of_lengthFor {len : Nat} {body : List WireField} (fits : lengthFor len body = true)
    (size : bodySize body ≤ 249) : badLength len = false := by
  simp [lengthFor] at fits
  simp [badLength]
  omega

/-- A complete request that its owner takes. -/
theorem Request.after_taken {r : Request} {s t : State} {body : List WireField} (held : s.held = false)
    (free : s.restarting = false) (fits : r.fits = true) (takes : r.owner s = .take t body) :
    r.after s = finish s { t with reply := taken r.kind body, rx := [] } := by
  simp [Request.after, held, free, fits, takes, taken]

/-- A complete request that its owner refuses. -/
theorem Request.after_refused {r : Request} {s : State} {why : Reason} (held : s.held = false)
    (free : s.restarting = false) (fits : r.fits = true) (refuses : r.owner s = .refuse why) :
    r.after s = { s with reply := refusedFor r.kind why, rx := [] } := by
  simp [Request.after, held, free, fits, refuses, refusedFor]

/-- A complete request of the wrong length never reaches its owner (R185). -/
theorem Request.after_badLength {r : Request} {s : State} (held : s.held = false) (free : s.restarting = false)
    (fits : r.fits = false) : r.after s = { s with reply := refusedFor r.kind .badLength, rx := [] } := by
  simp [Request.after, held, free, fits, refusedFor]

/-- Under the RESET pin nothing is received (R189). -/
theorem Request.after_held {r : Request} {s : State} (held : s.held = true) : r.after s = s := by
  simp [Request.after, held]

/-- A frame that completes while RESTART's reply is sent is discarded (R184, R190). -/
theorem Request.after_restarting {r : Request} {s : State} (held : s.held = false) (restarting : s.restarting = true) :
    r.after s = { s with rx := [] } := by
  simp [Request.after, held, restarting]

/-- With no frame begun, and a length byte that discards none, a request's frame is received whole. -/
theorem Request.receive_whole {r : Request} {s : State} (rx : s.rx = []) (size : badLength r.len = false) :
    r.receive s = .next (r.after s) := by
  simp [Request.receive, rx, size]

/-- In any other case its bytes are received as they come. -/
theorem Request.receive_bytes {r : Request} {s : State} (held : s.held = false)
    (h : s.rx ≠ [] ∨ badLength r.len = true) : r.receive s = .next (finish s (s.receiveBytes r.bytes)) := by
  rcases h with h | h <;> simp [Request.receive, event, held, h]

theorem Request.receive_held {r : Request} {s : State} (held : s.held = true) : r.receive s = .next s := by
  simp [Request.receive, event, held, Request.after_held]

/-- A request that its owner takes. -/
theorem Request.receive_taken {r : Request} {s t : State} {body : List WireField} (heard : s.listening = true)
    (size : badLength r.len = false) (fits : r.fits = true) (takes : r.owner s = .take t body) :
    r.receive s = .next (finish s { t with reply := taken r.kind body, rx := [] }) := by
  obtain ⟨held, free, rx⟩ := State.listening_iff.mp heard
  rw [Request.receive_whole rx size, Request.after_taken held free fits takes]

/-- A request that its owner refuses. -/
theorem Request.receive_refused {r : Request} {s : State} {why : Reason} (heard : s.listening = true)
    (size : badLength r.len = false) (fits : r.fits = true) (refuses : r.owner s = .refuse why) :
    r.receive s = .next { s with reply := refusedFor r.kind why, rx := [] } := by
  obtain ⟨held, free, rx⟩ := State.listening_iff.mp heard
  rw [Request.receive_whole rx size, Request.after_refused held free fits refuses]

/-- A request of the wrong length. -/
theorem Request.receive_badLength {r : Request} {s : State} (heard : s.listening = true)
    (size : badLength r.len = false) (fits : r.fits = false) :
    r.receive s = .next { s with reply := refusedFor r.kind .badLength, rx := [] } := by
  obtain ⟨held, free, rx⟩ := State.listening_iff.mp heard
  rw [Request.receive_whole rx size, Request.after_badLength held free fits]

/-- While RESTART's reply is sent. -/
theorem Request.receive_restarting {r : Request} {s : State} (held : s.held = false) (restarting : s.restarting = true)
    (rx : s.rx = []) (size : badLength r.len = false) : r.receive s = .next { s with rx := [] } := by
  rw [Request.receive_whole rx size, Request.after_restarting held restarting]

theorem event_runs {f : State → State} {s : State} (held : s.held = false) : event f s = .next (finish s (f s)) := by
  simp [event, held]

theorem event_held {f : State → State} {s : State} (held : s.held = true) : event f s = .next s := by
  simp [event, held]

/-! ### The receiver -/

theorem fromStart_length_le (bs : List Byte) : (fromStart bs).length ≤ bs.length := by
  unfold fromStart
  exact (List.dropWhile_suffix _).length_le

/-- Turns beyond the bytes there are change nothing: two bounds that cover the bytes agree. -/
theorem receiveSteps_eq {n m : Nat} {bs : List Byte} {s : State} (hn : bs.length ≤ n) (hm : bs.length ≤ m) :
    receiveSteps n bs s = receiveSteps m bs s := by
  induction n generalizing m bs s with
  | zero =>
    obtain rfl : bs = [] := List.eq_nil_of_length_eq_zero (by omega)
    cases m <;> rfl
  | succ n ih =>
    cases m with
    | zero =>
      obtain rfl : bs = [] := List.eq_nil_of_length_eq_zero (by omega)
      rfl
    | succ m =>
      have size := fromStart_length_le bs
      unfold receiveSteps
      split
      · rename_i start len rest found
        rw [found] at size
        simp only [List.length_cons] at size
        rw [ih (m := m) (bs := rest) (by omega) (by omega),
          ih (m := m) (bs := rest.drop (len.toNat + 2)) (by simp; omega) (by simp; omega)]
      · rfl

/-- What every complete frame keeps, and the receiver's own field does not decide, the bytes that come in keep. -/
theorem receiveSteps_keeps {P : State → Prop} (rx : ∀ (s : State) (x : List Byte), P s → P { s with rx := x })
    (frame : ∀ (len : Byte) (rest : List Byte) (s : State), P s → P (completeFrame len rest s)) {n : Nat}
    {bs : List Byte} {s : State} (h : P s) : P (receiveSteps n bs s) := by
  induction n generalizing bs s with
  | zero => exact rx s _ h
  | succ n ih =>
    unfold receiveSteps
    split
    · split
      · exact ih h
      · split
        · exact rx s _ h
        · exact ih (frame _ _ _ h)
    · exact rx s _ h

/-- What every request keeps, a complete frame keeps. -/
theorem completeFrame_keeps {P : State → Prop} (request : ∀ (kind : Nat) (body : List Byte) (s : State), P s →
    P ((frameRequest kind body).after s)) (len : Byte) (rest : List Byte) {s : State} (h : P s) :
    P (completeFrame len rest s) := by
  unfold completeFrame
  split
  · split
    · exact request _ _ _ h
    · exact h
  · exact h

/-! ### A body's fields and their bytes -/

@[simp] theorem bytesLE_length (w n : Nat) : (bytesLE w n).length = w := by
  induction w generalizing n with
  | zero => rfl
  | succ w ih => simp [bytesLE, ih]

/-- The bytes of a number that fits its width read back as the number. -/
theorem numberLE_bytesLE {w n : Nat} (h : n < 256 ^ w) : numberLE (bytesLE w n) = n := by
  induction w generalizing n with
  | zero => simp at h; simp [bytesLE, numberLE, h]
  | succ w ih =>
    have low : (BitVec.ofNat 8 n).toNat = n % 256 := by simp
    simp only [bytesLE, numberLE, low]
    rw [ih (by rw [Nat.pow_succ] at h; omega)]
    omega

@[simp] theorem WireField.bytes_length (f : WireField) : f.bytes.length = f.size := by
  cases f <;> simp [WireField.bytes, WireField.size, fitUnsigned, fitSigned]

@[simp] theorem bodyBytes_length (fs : List WireField) : (bodyBytes fs).length = bodySize fs := by
  induction fs with
  | nil => rfl
  | cons f fs ih => simp_all [bodyBytes, bodySize]

/-- The number that a field's bytes spell: the number itself, in two's complement for a signed one. -/
def WireField.number : WireField → Nat
  | .u8 n => n | .u16 n => n | .u24 n => n | .u32 n => n
  | .i16 z => (z % 65536).toNat | .i32 z => (z % 4294967296).toNat

/-- A field that fits its width reads back. -/
theorem WireField.numberLE_bytes {f : WireField} (h : fieldFits f = true) : numberLE f.bytes = f.number := by
  cases f with
  | u8 n | u16 n | u24 n | u32 n =>
    simp [fieldFits] at h
    simp [WireField.bytes, fitUnsigned, WireField.number, h, numberLE_bytesLE]
  | i16 z | i32 z =>
    simp [fieldFits] at h
    simp only [WireField.bytes, fitSigned, WireField.number]
    rw [if_pos (by omega), numberLE_bytesLE (by omega)]
    rfl

/-- A body whose fields fit their widths reads back, field by field, whatever stands behind it. -/
theorem numbersOf_bodyBytes {fs : List WireField} (h : fs.all fieldFits = true) (tail : List Byte) :
    numbersOf (fs.map WireField.size) (bodyBytes fs ++ tail) = fs.map WireField.number := by
  induction fs with
  | nil => rfl
  | cons f fs ih =>
    simp only [List.all_cons, Bool.and_eq_true] at h
    have split : bodyBytes (f :: fs) ++ tail = f.bytes ++ (bodyBytes fs ++ tail) := by simp [bodyBytes]
    rw [split, List.map_cons, numbersOf, List.take_append_of_le_length (by simp),
      List.take_of_length_le (by simp), List.drop_append_of_le_length (by simp), List.drop_of_length_le (by simp),
      List.nil_append, ih h.2, WireField.numberLE_bytes h.1, List.map_cons]

end Sys2Proof.Machine
end

