-- ==== Sys2Proof/Laws/Alarm.lean ====
section
/-! SUPPORT. What the alarm unit's operations do to the entries: the entry posted, and all others. -/

namespace Sys2Proof.Machine

@[simp] theorem record_entry (s : State) (e x : AlarmId) (tr : Transition) : (s.record e tr).entry x = s.entry x := by
  unfold State.record
  dsimp only
  split
  · rfl
  · split <;> rfl

@[simp] theorem notify_entry (s : State) (src : Source) (c : Cause) (x : AlarmId) :
    (s.notify src c).entry x = s.entry x := rfl

@[simp] theorem presentTrigger_entry (s : State) (src : TriggerSource) (p : Channel → Bool) (x : AlarmId) :
    (s.presentTrigger src p).entry x = s.entry x := rfl

/-- The history after a record: it ends with the transition (R147). -/
theorem record_last (s : State) (e : AlarmId) (tr : Transition) :
    (s.record e tr).alarm.history.getLast? = some ⟨e, tr, (s.entry e).stage, s.uptime⟩ := by
  unfold State.record
  dsimp only
  split
  · simp
  · split <;> simp [State.notify]

/-- The entry a raise leaves (R135, R137). -/
theorem raise_self (s : State) (e : AlarmId) : (s.raise e).entry e =
    { s.entry e with
      state := .activeUnack, onTimer := none, shelf := none,
      stamp := if (s.entry e).state = .clearedUnack then (s.entry e).stamp else s.uptime,
      raises := heldAdd 255 (s.entry e).raises, escTimer := raiseTimer s.alarm (s.entry e) } := by
  simp [State.raise]

theorem raise_other {s : State} {e x : AlarmId} (h : x ≠ e) : (s.raise e).entry x = s.entry x := by
  simp [State.raise, State.entry_setEntry_other, h]

theorem clearingEnds_other {s : State} {e x : AlarmId} (h : x ≠ e) : (s.clearingEnds e).entry x = s.entry x := by
  unfold State.clearingEnds
  dsimp only
  split <;> simp [State.entry_setEntry_other, h]

theorem startOnDelay_other {s : State} {e x : AlarmId} (h : x ≠ e) : (s.startOnDelay e).entry x = s.entry x := by
  unfold State.startOnDelay
  dsimp only
  split
  · exact raise_other h
  · simp [State.entry_setEntry_other, h]

theorem actOn_other {s : State} {e x : AlarmId} (h : x ≠ e) : (s.actOn e).entry x = s.entry x := by
  unfold State.actOn
  dsimp only
  split <;> (try split) <;>
    simp [startOnDelay_other, raise_other, clearingEnds_other, State.entry_setEntry_other, h]

/-- A posting touches one entry only (R131). -/
theorem post_other {s : State} {e x : AlarmId} (v : Bool) (h : x ≠ e) : (s.post e v).entry x = s.entry x := by
  unfold State.post
  dsimp only
  split
  · rfl
  · rw [actOn_other h, State.entry_setEntry_other (h := h)]

theorem raise_condition (s : State) (e : AlarmId) : ((s.raise e).entry e).condition = (s.entry e).condition := by
  rw [raise_self]

theorem clearingEnds_condition (s : State) (e : AlarmId) :
    ((s.clearingEnds e).entry e).condition = (s.entry e).condition := by
  unfold State.clearingEnds
  dsimp only
  split <;> simp

theorem startOnDelay_condition (s : State) (e : AlarmId) :
    ((s.startOnDelay e).entry e).condition = (s.entry e).condition := by
  unfold State.startOnDelay
  dsimp only
  split
  · exact raise_condition s e
  · simp

theorem actOn_condition (s : State) (e : AlarmId) : ((s.actOn e).entry e).condition = (s.entry e).condition := by
  unfold State.actOn
  dsimp only
  split <;> (try split) <;> simp [startOnDelay_condition, raise_condition, clearingEnds_condition]

/-- The condition posted is stored in every state of the entry (R131). -/
theorem post_condition (s : State) (e : AlarmId) (v : Bool) : ((s.post e v).entry e).condition = v := by
  unfold State.post
  dsimp only
  split
  · assumption
  · rw [actOn_condition]; simp

end Sys2Proof.Machine
end

