-- ==== Sys2Proof/Laws/Bounds.lean ====
section
/-! SUPPORT. The queues stay within bounds: every shared operation keeps one notice record per source (R186) and at most
128 alarm history records (R147). -/

namespace Sys2Proof.Machine

/-- The notice queue and the alarm history queue are within bounds. -/
structure Bounded (s : State) : Prop where
  one : s.OneRecordPerSource
  fits : s.HistoryFits

theorem Bounded.forAll {α : Type} {t : State} {f : α → State → State} {xs : List α} (h : Bounded t)
    (step : ∀ x u, Bounded u → Bounded (f x u)) : Bounded (Machine.forAll xs f t) := forAll_keeps f step xs t h

theorem Bounded.with_alarm {t : State} (h : Bounded t) (u : AlarmUnit) (e : u.history = t.alarm.history) :
    Bounded { t with alarm := u } := ⟨h.one, by unfold State.HistoryFits; rw [e]; exact h.fits⟩

theorem Bounded.with_reply {t : State} (h : Bounded t) (x : Option Reply) :
    Bounded { t with reply := x } := ⟨h.one, h.fits⟩

theorem Bounded.with_attn {t : State} (h : Bounded t) (x : Bool) :
    Bounded { t with attn := x } := ⟨h.one, h.fits⟩

theorem Bounded.with_channels {t : State} (h : Bounded t) (x : Vector Channel 4) :
    Bounded { t with channels := x } := ⟨h.one, h.fits⟩

theorem Bounded.with_lanes {t : State} (h : Bounded t) (x : Vector Lane 12) :
    Bounded { t with lanes := x } := ⟨h.one, h.fits⟩

theorem Bounded.with_air {t : State} (h : Bounded t) (x : Air) :
    Bounded { t with air := x } := ⟨h.one, h.fits⟩

theorem Bounded.with_slots {t : State} (h : Bounded t) (x : Vector Slot 48) :
    Bounded { t with slots := x } := ⟨h.one, h.fits⟩

theorem Bounded.with_budget {t : State} (h : Bounded t) (x : Budget) :
    Bounded { t with budget := x } := ⟨h.one, h.fits⟩

theorem Bounded.with_blowers {t : State} (h : Bounded t) (x : Vector Blower 6) :
    Bounded { t with blowers := x } := ⟨h.one, h.fits⟩

theorem Bounded.with_trains {t : State} (h : Bounded t) (x : Vector Train 4) :
    Bounded { t with trains := x } := ⟨h.one, h.fits⟩

theorem Bounded.with_plant {t : State} (h : Bounded t) (x : Plant) :
    Bounded { t with plant := x } := ⟨h.one, h.fits⟩

theorem Bounded.with_online {t : State} (h : Bounded t) (x : List BlowerId) :
    Bounded { t with online := x } := ⟨h.one, h.fits⟩

theorem Bounded.with_header {t : State} (h : Bounded t) (x : Header) :
    Bounded { t with header := x } := ⟨h.one, h.fits⟩

theorem Bounded.with_pending {t : State} (h : Bounded t) (x : List Instr) :
    Bounded { t with pending := x } := ⟨h.one, h.fits⟩

theorem Bounded.with_held {t : State} (h : Bounded t) (x : Bool) :
    Bounded { t with held := x } := ⟨h.one, h.fits⟩

theorem Bounded.with_restarting {t : State} (h : Bounded t) (x : Bool) :
    Bounded { t with restarting := x } := ⟨h.one, h.fits⟩

theorem Bounded.with_baud {t : State} (h : Bounded t) (x : Baud) :
    Bounded { t with baud := x } := ⟨h.one, h.fits⟩

theorem Bounded.with_rx {t : State} (h : Bounded t) (x : List Byte) :
    Bounded { t with rx := x } := ⟨h.one, h.fits⟩

theorem Bounded.with_frameCount {t : State} (h : Bounded t) (x : Nat) :
    Bounded { t with frameCount := x } := ⟨h.one, h.fits⟩

theorem Bounded.with_uptime {t : State} (h : Bounded t) (x : Nat) :
    Bounded { t with uptime := x } := ⟨h.one, h.fits⟩

theorem Bounded.with_outbound {t : State} (h : Bounded t) (x : Option Outbound) :
    Bounded { t with outbound := x } := ⟨h.one, h.fits⟩

theorem Bounded.with_hubs {t : State} (h : Bounded t) (x : Vector Hub 4) :
    Bounded { t with hubs := x } := ⟨h.one, h.fits⟩

theorem Bounded.with_service {t : State} (h : Bounded t) (x : Service) :
    Bounded { t with service := x } := ⟨h.one, h.fits⟩

theorem Bounded.with_points {t : State} (h : Bounded t) (x : Vector Point 96) :
    Bounded { t with points := x } := ⟨h.one, h.fits⟩

theorem Bounded.with_duty {t : State} (h : Bounded t) (x : List BlowerId) :
    Bounded { t with duty := x } := ⟨h.one, h.fits⟩

theorem Bounded.setEntry {t : State} (h : Bounded t) (e : AlarmId) (r : Entry) :
    Bounded (State.setEntry t e r) := ⟨h.one, h.fits⟩

theorem mem_postTo {src : Source} {mask : Byte} {now : Nat} :
    ∀ {ns : List Notice} {x : Source}, x ∈ (postTo src mask now ns).map (·.source) → x = src ∨ x ∈ ns.map (·.source)
  | [], x, h => by simp [postTo] at h; exact .inl h
  | n :: ns, x, h => by
    unfold postTo at h
    split at h
    · exact .inr h
    · rcases List.mem_cons.1 h with e | m
      · exact .inr (List.mem_cons.2 (.inl e))
      · rcases mem_postTo m with e | m
        · exact .inl e
        · exact .inr (List.mem_cons.2 (.inr m))

/-- A posting keeps one record per source (R186). -/
theorem postTo_nodup {src : Source} {mask : Byte} {now : Nat} :
    ∀ {ns : List Notice}, (ns.map (·.source)).Nodup → ((postTo src mask now ns).map (·.source)).Nodup
  | [], _ => by simp [postTo]
  | n :: ns, h => by
    unfold postTo
    split
    · exact h
    · next ne =>
      refine List.nodup_cons.2 ⟨fun m => ?_, postTo_nodup (List.nodup_cons.1 h).2⟩
      rcases mem_postTo m with e | m
      · exact ne e
      · exact (List.nodup_cons.1 h).1 m

theorem Bounded.notify {t : State} (h : Bounded t) (src : Source) (c : Cause) : Bounded (t.notify src c) :=
  ⟨postTo_nodup h.one, h.fits⟩

theorem Bounded.record {t : State} (h : Bounded t) (e : AlarmId) (tr : Transition) : Bounded (t.record e tr) := by
  unfold State.record
  have fits := h.fits
  unfold State.HistoryFits at fits
  dsimp only
  split
  · exact ⟨h.one, by simp [State.HistoryFits]; omega⟩
  · have room : (t.alarm.history.tail ++ [(⟨e, tr, (t.entry e).stage, t.uptime⟩ : HistoryRecord)]).length ≤ 128 := by
      simp; omega
    split
    · exact ⟨h.one, room⟩
    · refine Bounded.notify ?_ _ _
      exact ⟨h.one, room⟩

theorem Bounded.presentTrigger {t : State} (h : Bounded t) (src : TriggerSource) (concerns : Channel → Bool) :
    Bounded (State.presentTrigger t src concerns) := ⟨h.one, h.fits⟩

theorem Bounded.raise {t : State} (h : Bounded t) (e : AlarmId) :
    Bounded (State.raise t e) := by
  unfold State.raise
  try dsimp only
  repeat' (first
    | (with_reducible exact h) | (with_reducible apply Bounded.record)
    | (with_reducible apply Bounded.setEntry) | (with_reducible apply Bounded.notify)
    | (with_reducible apply Bounded.presentTrigger))

theorem Bounded.clearingEnds {t : State} (h : Bounded t) (e : AlarmId) :
    Bounded (State.clearingEnds t e) := by
  unfold State.clearingEnds
  try dsimp only
  repeat' (first
    | (with_reducible exact h) | (with_reducible apply Bounded.record)
    | (with_reducible apply Bounded.setEntry) | split)

theorem Bounded.startOnDelay {t : State} (h : Bounded t) (e : AlarmId) :
    Bounded (State.startOnDelay t e) := by
  unfold State.startOnDelay
  try dsimp only
  repeat' (first
    | (with_reducible exact h) | (with_reducible apply Bounded.raise) | (with_reducible apply Bounded.setEntry)
    | split)

theorem Bounded.actOn {t : State} (h : Bounded t) (e : AlarmId) :
    Bounded (State.actOn t e) := by
  unfold State.actOn
  try dsimp only
  repeat' (first
    | (with_reducible exact h) | (with_reducible apply Bounded.raise)
    | (with_reducible apply Bounded.clearingEnds) | (with_reducible apply Bounded.startOnDelay)
    | (with_reducible apply Bounded.setEntry) | split)

theorem Bounded.post {t : State} (h : Bounded t) (e : AlarmId) (v : Bool) :
    Bounded (State.post t e v) := by
  unfold State.post
  try dsimp only
  repeat' (first
    | (with_reducible exact h) | (with_reducible apply Bounded.actOn) | (with_reducible apply Bounded.setEntry)
    | split)

theorem Bounded.unsuppress {t : State} (h : Bounded t) (e : AlarmId) :
    Bounded (State.unsuppress t e) := by
  unfold State.unsuppress
  try dsimp only
  repeat' (first
    | (with_reducible exact h) | (with_reducible apply Bounded.startOnDelay)
    | (with_reducible apply Bounded.setEntry) | split)

theorem Bounded.flagEntries {t : State} (h : Bounded t) (es : List AlarmId) (v : Bool) :
    Bounded (State.flagEntries t es v) := by
  unfold State.flagEntries
  try dsimp only
  repeat' (first
    | (with_reducible exact h) | (with_reducible apply Bounded.unsuppress)
    | (with_reducible apply Bounded.setEntry) | (with_reducible apply Bounded.forAll) | (intro _ _ h) | split)

theorem Bounded.suppressLane {t : State} (h : Bounded t) (l : LaneId) (v : Bool) :
    Bounded (State.suppressLane t l v) := by
  unfold State.suppressLane
  try dsimp only
  repeat' (first
    | (with_reducible exact h) | (with_reducible apply Bounded.flagEntries) | split
    | (refine Bounded.with_alarm ?_ _ rfl))

theorem Bounded.suppressBlower {t : State} (h : Bounded t) (b : BlowerId) (v : Bool) :
    Bounded (State.suppressBlower t b v) := by
  unfold State.suppressBlower
  try dsimp only
  repeat' (first
    | (with_reducible exact h) | (with_reducible apply Bounded.flagEntries) | split
    | (refine Bounded.with_alarm ?_ _ rfl))

theorem Bounded.suppressTrain {t : State} (h : Bounded t) (k : TrainId) (v : Bool) :
    Bounded (State.suppressTrain t k v) := by
  unfold State.suppressTrain
  try dsimp only
  repeat' (first
    | (with_reducible exact h) | (with_reducible apply Bounded.flagEntries) | split
    | (refine Bounded.with_alarm ?_ _ rfl))

theorem Bounded.shelve {t : State} (h : Bounded t) (e : AlarmId) (time : Nat) :
    Bounded (State.shelve t e time) := by
  unfold State.shelve
  try dsimp only
  repeat' (first
    | (with_reducible exact h) | (with_reducible apply Bounded.record)
    | (with_reducible apply Bounded.setEntry))

theorem Bounded.unshelve {t : State} (h : Bounded t) (e : AlarmId) :
    Bounded (State.unshelve t e) := by
  unfold State.unshelve
  try dsimp only
  repeat' (first
    | (with_reducible exact h) | (with_reducible apply Bounded.record) | (with_reducible apply Bounded.raise)
    | (with_reducible apply Bounded.setEntry) | split)

theorem Bounded.escalate {t : State} (h : Bounded t) (e : AlarmId) :
    Bounded (State.escalate t e) := by
  unfold State.escalate
  try dsimp only
  repeat' (first
    | (with_reducible exact h) | (with_reducible apply Bounded.record)
    | (with_reducible apply Bounded.setEntry) | (with_reducible apply Bounded.notify))

theorem Bounded.refresh {t : State} (h : Bounded t) :
    Bounded (State.refresh t) := ⟨h.one, h.fits⟩

theorem Bounded.setAlarm {t : State} (h : Bounded t) (e : AlarmId) (priority onDelay offDelay : Nat) :
    Bounded (State.setAlarm t e priority onDelay offDelay) := by
  unfold State.setAlarm
  try dsimp only
  repeat' (first
    | (with_reducible exact h) | (with_reducible apply Bounded.startOnDelay)
    | (with_reducible apply Bounded.setEntry) | split)

theorem Bounded.setEscalation {t : State} (h : Bounded t) (time threshold : Nat) :
    Bounded (State.setEscalation t time threshold) := by
  unfold State.setEscalation
  try dsimp only
  repeat' (first
    | (with_reducible exact h) | (refine Bounded.with_alarm ?_ _ rfl))

theorem Bounded.silence {t : State} (h : Bounded t) :
    Bounded (State.silence t) := by
  unfold State.silence
  try dsimp only
  repeat' (first
    | (with_reducible exact h) | (refine Bounded.with_alarm ?_ _ rfl))

theorem Bounded.drainHistory {t : State} (h : Bounded t) (count : Nat) : Bounded (t.drainHistory count) :=
  ⟨h.one, (List.length_drop ▸ Nat.sub_le _ _ : (t.alarm.history.drop count).length ≤ _).trans h.fits⟩

theorem Bounded.onDelayEnds {t : State} (h : Bounded t) (e : AlarmId) :
    Bounded (State.onDelayEnds t e) := by
  unfold State.onDelayEnds
  try dsimp only
  repeat' (first
    | (with_reducible exact h) | (with_reducible apply Bounded.raise) | split)

theorem Bounded.clearingTimerEnds {t : State} (h : Bounded t) (e : AlarmId) :
    Bounded (State.clearingTimerEnds t e) := by
  unfold State.clearingTimerEnds
  try dsimp only
  repeat' (first
    | (with_reducible exact h) | (with_reducible apply Bounded.clearingEnds) | split)

theorem Bounded.shelfEnds {t : State} (h : Bounded t) (e : AlarmId) :
    Bounded (State.shelfEnds t e) := by
  unfold State.shelfEnds
  try dsimp only
  repeat' (first
    | (with_reducible exact h) | (with_reducible apply Bounded.unshelve) | split)

theorem Bounded.escalationEnds {t : State} (h : Bounded t) (e : AlarmId) :
    Bounded (State.escalationEnds t e) := by
  unfold State.escalationEnds
  try dsimp only
  repeat' (first
    | (with_reducible exact h) | (with_reducible apply Bounded.escalate) | split)

theorem Bounded.entrySecond {t : State} (h : Bounded t) (e : AlarmId) :
    Bounded (State.entrySecond e t) := by
  unfold State.entrySecond
  try dsimp only
  repeat' (first
    | (with_reducible exact h) | (with_reducible apply Bounded.onDelayEnds)
    | (with_reducible apply Bounded.clearingTimerEnds) | (with_reducible apply Bounded.shelfEnds)
    | (with_reducible apply Bounded.escalationEnds) | split)

theorem Bounded.setChannel {t : State} (h : Bounded t) (c : ChannelId) (r : Channel) :
    Bounded (State.setChannel t c r) := ⟨h.one, h.fits⟩

theorem Bounded.setSlot {t : State} (h : Bounded t) (q : SlotId) (r : Slot) :
    Bounded (State.setSlot t q r) := ⟨h.one, h.fits⟩

theorem Bounded.updateSlot {t : State} (h : Bounded t) (q : Nat) (f : Slot → Slot) :
    Bounded (State.updateSlot t q f) := by
  unfold State.updateSlot
  try dsimp only
  repeat' (first
    | (with_reducible exact h) | (with_reducible apply Bounded.setSlot) | split)

theorem Bounded.writeSlot {t : State} (h : Bounded t) (q value : Nat) (valid : Bool) :
    Bounded (State.writeSlot t q value valid) := by
  unfold State.writeSlot
  try dsimp only
  repeat' (first
    | (with_reducible exact h) | (with_reducible apply Bounded.updateSlot))

theorem Bounded.invalidateSlot {t : State} (h : Bounded t) (q : Nat) :
    Bounded (State.invalidateSlot t q) := by
  unfold State.invalidateSlot
  try dsimp only
  repeat' (first
    | (with_reducible exact h) | (with_reducible apply Bounded.updateSlot))

theorem Bounded.releaseSlot {t : State} (h : Bounded t) (q : Nat) :
    Bounded (State.releaseSlot t q) := by
  unfold State.releaseSlot
  try dsimp only
  repeat' (first
    | (with_reducible exact h) | (with_reducible apply Bounded.updateSlot))

theorem Bounded.claimSlot {t : State} (h : Bounded t) (q : Nat) (c : Claimant) :
    Bounded (State.claimSlot t q c) := by
  unfold State.claimSlot
  try dsimp only
  repeat' (first
    | (with_reducible exact h) | (with_reducible apply Bounded.updateSlot))

theorem Bounded.setLane {t : State} (h : Bounded t) (l : LaneId) (r : Lane) :
    Bounded (State.setLane t l r) := ⟨h.one, h.fits⟩

theorem Bounded.writeValve {t : State} (h : Bounded t) (l : LaneId) (value : Nat) :
    Bounded (State.writeValve t l value) := by
  unfold State.writeValve
  try dsimp only
  repeat' (first
    | (with_reducible exact h) | (with_reducible apply Bounded.writeSlot) | split)

theorem Bounded.dropValve {t : State} (h : Bounded t) (l : LaneId) :
    Bounded (State.dropValve t l) := by
  unfold State.dropValve
  try dsimp only
  repeat' (first
    | (with_reducible exact h) | (with_reducible apply Bounded.invalidateSlot) | split)

theorem Bounded.completeAdoption {t : State} (h : Bounded t) (l : LaneId) :
    Bounded (State.completeAdoption t l) := by
  unfold State.completeAdoption
  try dsimp only
  repeat' (first
    | (with_reducible exact h) | (with_reducible apply Bounded.setLane)
    | (with_reducible apply Bounded.writeValve) | split)

theorem Bounded.retime {t : State} (h : Bounded t) (restartShortfall restartSurplus : Bool) :
    Bounded (State.retime t restartShortfall restartSurplus) := by
  unfold State.retime
  try dsimp only
  repeat' (first
    | (with_reducible exact h) | (with_reducible apply Bounded.with_air))

theorem Bounded.testDeficit {t : State} (h : Bounded t) :
    Bounded (State.testDeficit t) := by
  unfold State.testDeficit
  try dsimp only
  repeat' (first
    | (with_reducible exact h) | (with_reducible apply Bounded.post) | split
    | (with_reducible apply Bounded.with_air))

theorem Bounded.mapEntry {t : State} (h : Bounded t) (l : LaneId) (f : AirEntry → AirEntry) :
    Bounded (State.mapEntry t l f) := by
  unfold State.mapEntry
  try dsimp only
  repeat' (first
    | (with_reducible exact h) | split | (with_reducible apply Bounded.with_air))

theorem Bounded.dropEntry {t : State} (h : Bounded t) (l : LaneId) :
    Bounded (State.dropEntry t l) := by
  unfold State.dropEntry
  try dsimp only
  repeat' (first
    | (with_reducible exact h) | (with_reducible apply Bounded.post) | split
    | (with_reducible apply Bounded.with_air))

theorem Bounded.setGrant {t : State} (h : Bounded t) (l : LaneId) (g : Nat) :
    Bounded (State.setGrant t l g) := ⟨h.one, h.fits⟩

theorem Bounded.serveSteps : ∀ (fuel : Nat) {t : State}, Bounded t → Bounded (State.serveSteps fuel t)
  | 0, _, h => h
  | fuel + 1, t, h => by
    unfold State.serveSteps
    dsimp only
    split
    · exact h
    · split
      · apply Bounded.serveSteps
        apply Bounded.completeAdoption
        split
        · exact (h.setGrant _ _).dropEntry _
        · exact (h.setGrant _ _).with_air _
      · exact h

theorem Bounded.serve {t : State} (h : Bounded t) :
    Bounded (State.serve t) := by
  unfold State.serve
  try dsimp only
  repeat' (first
    | (with_reducible exact h) | (with_reducible apply Bounded.serveSteps))

theorem Bounded.settleAir {t : State} (h : Bounded t) :
    Bounded (State.settleAir t) := by
  unfold State.settleAir
  try dsimp only
  repeat' (first
    | (with_reducible exact h) | (with_reducible apply Bounded.retime)
    | (with_reducible apply Bounded.testDeficit) | (with_reducible apply Bounded.serve))

theorem Bounded.withdraw {t : State} (h : Bounded t) (l : LaneId) :
    Bounded (State.withdraw t l) := by
  unfold State.withdraw
  try dsimp only
  repeat' (first
    | (with_reducible exact h) | (with_reducible apply Bounded.dropEntry)
    | (with_reducible apply Bounded.settleAir) | split)

theorem Bounded.requestAir {t : State} (h : Bounded t) (l : LaneId) (amount : Nat) :
    Bounded (State.requestAir t l amount) := by
  unfold State.requestAir
  try dsimp only
  repeat' (first
    | (with_reducible exact h) | (with_reducible apply Bounded.mapEntry)
    | (with_reducible apply Bounded.settleAir) | (with_reducible apply Bounded.withdraw) | split
    | (with_reducible apply Bounded.with_air))

theorem Bounded.releaseAir {t : State} (h : Bounded t) (l : LaneId) (value : Nat) :
    Bounded (State.releaseAir t l value) := by
  unfold State.releaseAir
  try dsimp only
  repeat' (first
    | (with_reducible exact h) | (with_reducible apply Bounded.dropEntry)
    | (with_reducible apply Bounded.setGrant) | (with_reducible apply Bounded.settleAir))

theorem Bounded.grantTimeout {t : State} (h : Bounded t) (l : LaneId) (value : Nat) :
    Bounded (State.grantTimeout t l value) := by
  unfold State.grantTimeout
  try dsimp only
  repeat' (first
    | (with_reducible exact h) | (with_reducible apply Bounded.notify)
    | (with_reducible apply Bounded.setGrant) | (with_reducible apply Bounded.settleAir)
    | (with_reducible apply Bounded.with_air))

theorem Bounded.setHoldMark {t : State} (h : Bounded t) (l : LaneId) (v : Bool) :
    Bounded (State.setHoldMark t l v) := ⟨h.one, h.fits⟩

theorem Bounded.cutLane {t : State} (h : Bounded t) (floor : Nat) (requeue : Bool) (l : LaneId) :
    Bounded (State.cutLane t floor requeue l) := by
  unfold State.cutLane
  try dsimp only
  repeat' (first
    | (with_reducible exact h) | (with_reducible apply Bounded.notify)
    | (with_reducible apply Bounded.mapEntry) | (with_reducible apply Bounded.setGrant) | split)

theorem Bounded.cut {t : State} (h : Bounded t) : Bounded t.cut := by
  unfold State.cut
  extract_lets t₁ t₂
  have h₁ : Bounded t₁ := h.forAll fun _ _ h => Bounded.cutLane h _ _ _
  have h₂ : Bounded t₂ := h₁.forAll fun _ _ h => Bounded.cutLane h _ _ _
  split
  · split
    · exact h₂
    · exact ((h₂.with_air _).post _ _).notify _ _
  · exact h₂.testDeficit

theorem Bounded.dropCapacity {t : State} (h : Bounded t) (b : BlowerId) :
    Bounded (State.dropCapacity t b) := by
  unfold State.dropCapacity
  try dsimp only
  repeat' (first
    | (with_reducible exact h) | (with_reducible apply Bounded.with_air))

theorem Bounded.addCapacity {t : State} (h : Bounded t) (b : BlowerId) (rated : Nat) :
    Bounded (State.addCapacity t b rated) := by
  unfold State.addCapacity
  try dsimp only
  repeat' (first
    | (with_reducible exact h) | (with_reducible apply Bounded.retime)
    | (with_reducible apply Bounded.testDeficit) | (with_reducible apply Bounded.serve)
    | (with_reducible apply Bounded.with_air))

theorem Bounded.loseCapacity {t : State} (h : Bounded t) (b : BlowerId) :
    Bounded (State.loseCapacity t b) := by
  unfold State.loseCapacity
  try dsimp only
  repeat' (first
    | (with_reducible exact h) | (with_reducible apply Bounded.retime)
    | (with_reducible apply Bounded.testDeficit) | (with_reducible apply Bounded.serve)
    | (with_reducible apply Bounded.cut) | (with_reducible apply Bounded.dropCapacity) | split)

theorem Bounded.clearHoldMark {t : State} (h : Bounded t) (l : LaneId) :
    Bounded (State.clearHoldMark t l) := by
  unfold State.clearHoldMark
  try dsimp only
  repeat' (first
    | (with_reducible exact h) | (with_reducible apply Bounded.retime) | (with_reducible apply Bounded.serve)
    | (with_reducible apply Bounded.setHoldMark) | (with_reducible apply Bounded.cut) | split)

theorem Bounded.claimFreeze {t : State} (h : Bounded t) (n : Nat) :
    Bounded (State.claimFreeze t n) := by
  unfold State.claimFreeze
  try dsimp only
  repeat' (first
    | (with_reducible exact h) | split | (with_reducible apply Bounded.with_air))

theorem Bounded.endFreeze {t : State} (h : Bounded t) :
    Bounded (State.endFreeze t) := by
  unfold State.endFreeze
  try dsimp only
  repeat' (first
    | (with_reducible exact h) | (with_reducible apply Bounded.serve) | (with_reducible apply Bounded.with_air))

theorem Bounded.countFreeze {t : State} (h : Bounded t) :
    Bounded (State.countFreeze t) := by
  unfold State.countFreeze
  try dsimp only
  repeat' (first
    | (with_reducible exact h) | (with_reducible apply Bounded.endFreeze) | split
    | (with_reducible apply Bounded.with_air))

theorem Bounded.starve {t : State} (h : Bounded t) (l : LaneId) :
    Bounded (State.starve t l) := by
  unfold State.starve
  try dsimp only
  repeat' (first
    | (with_reducible exact h) | (with_reducible apply Bounded.post) | (with_reducible apply Bounded.mapEntry)
    | split)

theorem Bounded.testStarvation {t : State} (h : Bounded t) :
    Bounded (State.testStarvation t) := by
  unfold State.testStarvation
  try dsimp only
  repeat' (first
    | (with_reducible exact h) | (with_reducible apply Bounded.starve) | (with_reducible apply Bounded.forAll)
    | (intro _ _ h))

theorem Bounded.postTrim {t : State} (h : Bounded t) (l : LaneId) :
    Bounded (State.postTrim t l) := by
  unfold State.postTrim
  try dsimp only
  repeat' (first
    | (with_reducible exact h) | (with_reducible apply Bounded.post))

theorem Bounded.enterParked {t : State} (h : Bounded t) (l : LaneId) (mode : LaneMode) :
    Bounded (State.enterParked t l mode) := by
  unfold State.enterParked
  try dsimp only
  repeat' (first
    | (with_reducible exact h) | (with_reducible apply Bounded.post)
    | (with_reducible apply Bounded.suppressLane) | (with_reducible apply Bounded.setLane)
    | (with_reducible apply Bounded.postTrim) | (with_reducible apply Bounded.writeValve)
    | (with_reducible apply Bounded.releaseAir) | (with_reducible apply Bounded.setHoldMark) | split)

theorem Bounded.enterAdopting {t : State} (h : Bounded t) (l : LaneId) (target : RunMode) :
    Bounded (State.enterAdopting t l target) := by
  unfold State.enterAdopting
  try dsimp only
  repeat' (first
    | (with_reducible exact h) | (with_reducible apply Bounded.post)
    | (with_reducible apply Bounded.suppressLane) | (with_reducible apply Bounded.setLane)
    | (with_reducible apply Bounded.dropValve) | (with_reducible apply Bounded.requestAir))

theorem Bounded.enterHold {t : State} (h : Bounded t) (l : LaneId) :
    Bounded (State.enterHold t l) := by
  unfold State.enterHold
  try dsimp only
  repeat' (first
    | (with_reducible exact h) | (with_reducible apply Bounded.setLane) | (with_reducible apply Bounded.notify)
    | (with_reducible apply Bounded.postTrim) | (with_reducible apply Bounded.withdraw)
    | (with_reducible apply Bounded.setHoldMark) | (with_reducible apply Bounded.writeValve) | split)

theorem Bounded.wake {t : State} (h : Bounded t) (l : LaneId) :
    Bounded (State.wake t l) := by
  unfold State.wake
  try dsimp only
  repeat' (first
    | (with_reducible exact h) | (with_reducible apply Bounded.setLane) | (with_reducible apply Bounded.notify)
    | (with_reducible apply Bounded.enterAdopting) | split)

theorem Bounded.repark {t : State} (h : Bounded t) (l : LaneId) :
    Bounded (State.repark t l) := by
  unfold State.repark
  try dsimp only
  repeat' (first
    | (with_reducible exact h) | (with_reducible apply Bounded.enterParked) | split)

theorem Bounded.finishPeriod {t : State} (h : Bounded t) (l : LaneId) (c : LaneFields) (grant : Nat) :
    Bounded (State.finishPeriod t l c grant) := by
  unfold State.finishPeriod
  try dsimp only
  repeat' (first
    | (with_reducible exact h) | (with_reducible apply Bounded.post) | (with_reducible apply Bounded.setLane)
    | (with_reducible apply Bounded.writeValve))

theorem Bounded.reportFault {t : State} (h : Bounded t) (l : LaneId) (w : Working) :
    Bounded (State.reportFault t l w) := by
  unfold State.reportFault
  try dsimp only
  repeat' (first
    | (with_reducible exact h) | (with_reducible apply Bounded.notify)
    | (with_reducible apply Bounded.postTrim) | split)

theorem Bounded.presentClaim {t : State} (h : Bounded t) (l : LaneId) (claim : AirClaim) :
    Bounded (State.presentClaim t l claim) := by
  cases claim <;> dsimp only [State.presentClaim]
  repeat' (first
    | (with_reducible exact h) | (with_reducible apply Bounded.withdraw)
    | (with_reducible apply Bounded.requestAir) | (with_reducible apply Bounded.releaseAir))

theorem Bounded.lanePeriod {t : State} (h : Bounded t) (l : LaneId) :
    Bounded (State.lanePeriod t l) := by
  unfold State.lanePeriod
  try dsimp only
  repeat' (first
    | (with_reducible exact h) | (with_reducible apply Bounded.setLane)
    | (with_reducible apply Bounded.enterHold) | (with_reducible apply Bounded.presentClaim)
    | (with_reducible apply Bounded.finishPeriod) | (with_reducible apply Bounded.reportFault) | split)

theorem Bounded.stallMove {t : State} (h : Bounded t) (l : LaneId) :
    Bounded (State.stallMove t l) := by
  unfold State.stallMove
  try dsimp only
  repeat' (first
    | (with_reducible exact h) | (with_reducible apply Bounded.post) | (with_reducible apply Bounded.setLane)
    | (with_reducible apply Bounded.notify) | (with_reducible apply Bounded.withdraw)
    | (with_reducible apply Bounded.grantTimeout) | split)

theorem Bounded.endWindow {t : State} (h : Bounded t) (l : LaneId) :
    Bounded (State.endWindow t l) := by
  unfold State.endWindow
  try dsimp only
  repeat' (first
    | (with_reducible exact h) | (with_reducible apply Bounded.setLane)
    | (with_reducible apply Bounded.stallMove) | (with_reducible apply Bounded.dropValve) | split)

theorem Bounded.revalidate {t : State} (h : Bounded t) (l : LaneId) (c : LaneFields) :
    Bounded (State.revalidate t l c) := by
  unfold State.revalidate
  try dsimp only
  repeat' (first
    | (with_reducible exact h) | (with_reducible apply Bounded.setLane)
    | (with_reducible apply Bounded.writeValve))

theorem Bounded.testStalled {t : State} (h : Bounded t) (l : LaneId) (c : LaneFields) :
    Bounded (State.testStalled t l c) := by
  unfold State.testStalled
  try dsimp only
  repeat' (first
    | (with_reducible exact h) | (with_reducible apply Bounded.post) | (with_reducible apply Bounded.setLane)
    | split)

theorem Bounded.superviseMove {t : State} (h : Bounded t) (l : LaneId) (c : LaneFields) :
    Bounded (State.superviseMove t l c) := by
  unfold State.superviseMove
  try dsimp only
  repeat' (first
    | (with_reducible exact h) | (with_reducible apply Bounded.setLane)
    | (with_reducible apply Bounded.endWindow) | (with_reducible apply Bounded.revalidate)
    | (with_reducible apply Bounded.writeValve) | split)

theorem Bounded.laneFeedback {t : State} (h : Bounded t) (d : HubId) (l : LaneId) :
    Bounded (State.laneFeedback d l t) := by
  unfold State.laneFeedback
  try dsimp only
  repeat' (first
    | (with_reducible exact h) | (with_reducible apply Bounded.testStalled)
    | (with_reducible apply Bounded.superviseMove) | split)

theorem Bounded.takeLaneSet {t : State} (h : Bounded t) (l : LaneId) (f : LaneFields) :
    Bounded (State.takeLaneSet t l f) := by
  unfold State.takeLaneSet
  try dsimp only
  repeat' (first
    | (with_reducible exact h) | (with_reducible apply Bounded.setLane)
    | (with_reducible apply Bounded.writeSlot) | (with_reducible apply Bounded.releaseSlot)
    | (with_reducible apply Bounded.claimSlot) | (with_reducible apply Bounded.enterParked)
    | (with_reducible apply Bounded.withdraw) | (with_reducible apply Bounded.requestAir) | split)

theorem Bounded.setGate {t : State} (h : Bounded t) (l : LaneId) (gate : Bool) :
    Bounded (State.setGate t l gate) := by
  unfold State.setGate
  try dsimp only
  repeat' (first
    | (with_reducible exact h) | (with_reducible apply Bounded.setLane) | (with_reducible apply Bounded.notify)
    | (with_reducible apply Bounded.postTrim) | (with_reducible apply Bounded.enterHold) | split)

theorem Bounded.releaseLane {t : State} (h : Bounded t) (l : LaneId) :
    Bounded (State.releaseLane t l) := by
  unfold State.releaseLane
  try dsimp only
  repeat' (first
    | (with_reducible exact h) | (with_reducible apply Bounded.setLane)
    | (with_reducible apply Bounded.postTrim) | (with_reducible apply Bounded.clearHoldMark) | split)

theorem Bounded.flowMismatch {t : State} (h : Bounded t) (l : LaneId) :
    Bounded (State.flowMismatch t l) := by
  unfold State.flowMismatch
  try dsimp only
  repeat' (first
    | (with_reducible exact h) | (with_reducible apply Bounded.setLane)
    | (with_reducible apply Bounded.enterHold) | (with_reducible apply Bounded.reportFault) | split)

theorem Bounded.laneSecond {t : State} (h : Bounded t) (l : LaneId) :
    Bounded (State.laneSecond l t) := by
  unfold State.laneSecond
  try dsimp only
  repeat' (first
    | (with_reducible exact h) | (with_reducible apply Bounded.lanePeriod) | split)

theorem Bounded.reclaim {t : State} (h : Bounded t) (old new : List (Nat × Claimant)) :
    Bounded (State.reclaim t old new) := by
  unfold State.reclaim
  try dsimp only
  repeat' (first
    | (with_reducible exact h) | (with_reducible apply Bounded.releaseSlot)
    | (with_reducible apply Bounded.claimSlot) | (with_reducible apply Bounded.forAll) | (intro _ _ h))

theorem Bounded.setBlower {t : State} (h : Bounded t) (b : BlowerId) (r : Blower) :
    Bounded (State.setBlower t b r) := ⟨h.one, h.fits⟩

theorem Bounded.setTrain {t : State} (h : Bounded t) (k : TrainId) (r : Train) :
    Bounded (State.setTrain t k r) := ⟨h.one, h.fits⟩

theorem Bounded.setBudget {t : State} (h : Bounded t) (u : Budget) :
    Bounded (State.setBudget t u) := ⟨h.one, h.fits⟩

theorem Bounded.setPlant {t : State} (h : Bounded t) (p : Plant) :
    Bounded (State.setPlant t p) := ⟨h.one, h.fits⟩

theorem Bounded.writeBlower {t : State} (h : Bounded t) (b : BlowerId) :
    Bounded (State.writeBlower t b) := by
  unfold State.writeBlower
  try dsimp only
  repeat' (first
    | (with_reducible exact h) | (with_reducible apply Bounded.writeSlot)
    | (with_reducible apply Bounded.invalidateSlot) | split)

theorem Bounded.enterBlower {t : State} (h : Bounded t) (b : BlowerId) (r : Blower) :
    Bounded (State.enterBlower t b r) := by
  unfold State.enterBlower
  try dsimp only
  repeat' (first
    | (with_reducible exact h) | (with_reducible apply Bounded.setBlower)
    | (with_reducible apply Bounded.writeBlower))

theorem Bounded.blowerAdmitted {t : State} (h : Bounded t) (b : BlowerId) :
    Bounded (State.blowerAdmitted t b) := by
  unfold State.blowerAdmitted
  try dsimp only
  repeat' (first
    | (with_reducible exact h) | (with_reducible apply Bounded.post)
    | (with_reducible apply Bounded.enterBlower) | split)

theorem Bounded.writePump {t : State} (h : Bounded t) (k : TrainId) :
    Bounded (State.writePump t k) := by
  unfold State.writePump
  try dsimp only
  repeat' (first
    | (with_reducible exact h) | (with_reducible apply Bounded.writeSlot)
    | (with_reducible apply Bounded.invalidateSlot) | split)

theorem Bounded.postRasLimited {t : State} (h : Bounded t) (k : TrainId) :
    Bounded (State.postRasLimited t k) := by
  unfold State.postRasLimited
  try dsimp only
  repeat' (first
    | (with_reducible exact h) | (with_reducible apply Bounded.post))

theorem Bounded.enterPump {t : State} (h : Bounded t) (k : TrainId) (r : Train) :
    Bounded (State.enterPump t k r) := by
  unfold State.enterPump
  try dsimp only
  repeat' (first
    | (with_reducible exact h) | (with_reducible apply Bounded.setTrain)
    | (with_reducible apply Bounded.notify) | (with_reducible apply Bounded.writePump)
    | (with_reducible apply Bounded.postRasLimited) | split)

theorem Bounded.setPumpSpeed {t : State} (h : Bounded t) (k : TrainId) (speed : Nat) :
    Bounded (State.setPumpSpeed t k speed) := by
  unfold State.setPumpSpeed
  try dsimp only
  repeat' (first
    | (with_reducible exact h) | (with_reducible apply Bounded.setTrain)
    | (with_reducible apply Bounded.writePump))

theorem Bounded.pumpAdmitted {t : State} (h : Bounded t) (k : TrainId) :
    Bounded (State.pumpAdmitted t k) := by
  unfold State.pumpAdmitted
  try dsimp only
  repeat' (first
    | (with_reducible exact h) | (with_reducible apply Bounded.setTrain)
    | (with_reducible apply Bounded.writePump) | (with_reducible apply Bounded.postRasLimited)
    | (with_reducible apply Bounded.enterPump) | split)

theorem Bounded.mapCommit {t : State} (h : Bounded t) (d : Holder) (f : Commit → Commit) :
    Bounded (State.mapCommit t d f) := by
  unfold State.mapCommit
  try dsimp only
  repeat' (first
    | (with_reducible exact h) | (with_reducible apply Bounded.setBudget))

theorem Bounded.appendCommit {t : State} (h : Bounded t) (e : Commit) :
    Bounded (State.appendCommit t e) := by
  unfold State.appendCommit
  try dsimp only
  repeat' (first
    | (with_reducible exact h) | (with_reducible apply Bounded.setBudget))

theorem Bounded.givePower {t : State} (h : Bounded t) (d : Holder) (kw : Nat) :
    Bounded (State.givePower t d kw) := by
  unfold State.givePower
  try dsimp only
  repeat' (first
    | (with_reducible exact h) | (with_reducible apply Bounded.mapCommit)
    | (with_reducible apply Bounded.appendCommit) | (with_reducible apply Bounded.blowerAdmitted)
    | (with_reducible apply Bounded.pumpAdmitted) | split)

theorem Bounded.powerSteps : ∀ (fuel : Nat) {t : State}, Bounded t → Bounded (State.powerSteps fuel t)
  | 0, _, h => h
  | fuel + 1, t, h => by
    unfold State.powerSteps
    dsimp only
    split
    · exact h
    · split
      · exact Bounded.powerSteps fuel ((h.setBudget _).givePower _ _)
      · exact h

theorem Bounded.servePower {t : State} (h : Bounded t) :
    Bounded (State.servePower t) := by
  unfold State.servePower
  try dsimp only
  repeat' (first
    | (with_reducible exact h) | (with_reducible apply Bounded.powerSteps))

theorem Bounded.withdrawPower {t : State} (h : Bounded t) (d : Holder) :
    Bounded (State.withdrawPower t d) := by
  unfold State.withdrawPower
  try dsimp only
  repeat' (first
    | (with_reducible exact h) | (with_reducible apply Bounded.setBudget)
    | (with_reducible apply Bounded.servePower) | split)

theorem Bounded.requestPower {t : State} (h : Bounded t) (d : Holder) (cls kw : Nat) :
    Bounded (State.requestPower t d cls kw) := by
  unfold State.requestPower
  try dsimp only
  repeat' (first
    | (with_reducible exact h) | (with_reducible apply Bounded.setBudget)
    | (with_reducible apply Bounded.givePower) | (with_reducible apply Bounded.servePower)
    | (with_reducible apply Bounded.withdrawPower) | split)

theorem Bounded.presentPumpStart {t : State} (h : Bounded t) (k : TrainId) :
    Bounded (State.presentPumpStart t k) := by
  unfold State.presentPumpStart
  try dsimp only
  repeat' (first
    | (with_reducible exact h) | (with_reducible apply Bounded.setTrain)
    | (with_reducible apply Bounded.requestPower) | split)

theorem Bounded.liftPump {t : State} (h : Bounded t) (k : TrainId) :
    Bounded (State.liftPump k t) := by
  unfold State.liftPump
  try dsimp only
  repeat' (first
    | (with_reducible exact h) | (with_reducible apply Bounded.presentPumpStart)
    | (with_reducible apply Bounded.postRasLimited) | split)

theorem Bounded.endShedding {t : State} (h : Bounded t) :
    Bounded (State.endShedding t) := by
  unfold State.endShedding
  try dsimp only
  repeat' (first
    | (with_reducible exact h) | (with_reducible apply Bounded.post) | (with_reducible apply Bounded.notify)
    | (with_reducible apply Bounded.setBudget) | (with_reducible apply Bounded.servePower)
    | (with_reducible apply Bounded.liftPump) | (with_reducible apply Bounded.forAll) | (intro _ _ h)
    | (with_reducible apply Bounded.with_plant))

theorem Bounded.testPower {t : State} (h : Bounded t) :
    Bounded (State.testPower t) := by
  unfold State.testPower
  try dsimp only
  repeat' (first
    | (with_reducible exact h) | (with_reducible apply Bounded.servePower)
    | (with_reducible apply Bounded.endShedding) | split)

theorem Bounded.capPump {t : State} (h : Bounded t) (k : TrainId) :
    Bounded (State.capPump k t) := by
  unfold State.capPump
  try dsimp only
  repeat' (first
    | (with_reducible exact h) | (with_reducible apply Bounded.mapCommit)
    | (with_reducible apply Bounded.postRasLimited) | (with_reducible apply Bounded.setPumpSpeed) | split)

theorem Bounded.shedPump {t : State} (h : Bounded t) (k : TrainId) :
    Bounded (State.shedPump k t) := by
  unfold State.shedPump
  try dsimp only
  repeat' (first
    | (with_reducible exact h) | (with_reducible apply Bounded.setTrain)
    | (with_reducible apply Bounded.setBudget) | split)

theorem Bounded.enterShedding {t : State} (h : Bounded t) :
    Bounded (State.enterShedding t) := by
  unfold State.enterShedding
  try dsimp only
  repeat' (first
    | (with_reducible exact h) | (with_reducible apply Bounded.post) | (with_reducible apply Bounded.notify)
    | (with_reducible apply Bounded.setBudget) | (with_reducible apply Bounded.endShedding)
    | (with_reducible apply Bounded.capPump) | (with_reducible apply Bounded.shedPump)
    | (with_reducible apply Bounded.forAll) | (intro _ _ h) | split | (with_reducible apply Bounded.with_plant))

theorem Bounded.releasePower {t : State} (h : Bounded t) (d : Holder) :
    Bounded (State.releasePower t d) := by
  unfold State.releasePower
  try dsimp only
  repeat' (first
    | (with_reducible exact h) | (with_reducible apply Bounded.setBudget)
    | (with_reducible apply Bounded.testPower) | split)

theorem Bounded.decreasePower {t : State} (h : Bounded t) (k : TrainId) (kw : Nat) :
    Bounded (State.decreasePower t k kw) := by
  unfold State.decreasePower
  try dsimp only
  repeat' (first
    | (with_reducible exact h) | (with_reducible apply Bounded.mapCommit)
    | (with_reducible apply Bounded.testPower) | split)

theorem Bounded.convertPower {t : State} (h : Bounded t) (b : BlowerId) (kw : Nat) :
    Bounded (State.convertPower t b kw) := by
  unfold State.convertPower
  try dsimp only
  repeat' (first
    | (with_reducible exact h) | (with_reducible apply Bounded.mapCommit)
    | (with_reducible apply Bounded.testPower) | split)

theorem Bounded.adoptPower {t : State} (h : Bounded t) (d : Holder) (kind : CommitKind) (kw : Nat) :
    Bounded (State.adoptPower t d kind kw) := by
  unfold State.adoptPower
  try dsimp only
  repeat' (first
    | (with_reducible exact h) | (with_reducible apply Bounded.appendCommit)
    | (with_reducible apply Bounded.enterShedding) | split)

theorem Bounded.setCeiling {t : State} (h : Bounded t) (ceiling : Option Nat) (hard : Bool) (delay : Nat) :
    Bounded (State.setCeiling t ceiling hard delay) := by
  unfold State.setCeiling
  try dsimp only
  repeat' (first
    | (with_reducible exact h) | (with_reducible apply Bounded.setBudget)
    | (with_reducible apply Bounded.servePower) | (with_reducible apply Bounded.endShedding)
    | (with_reducible apply Bounded.enterShedding) | split)

theorem Bounded.changed {t : State} (h : Bounded t) (b : BlowerId) :
    Bounded (State.changed t b) := by
  unfold State.changed
  try dsimp only
  repeat' (first
    | (with_reducible exact h) | (with_reducible apply Bounded.notify))

theorem Bounded.testDeferral {t : State} (h : Bounded t) (b : BlowerId) :
    Bounded (State.testDeferral t b) := by
  unfold State.testDeferral
  try dsimp only
  repeat' (first
    | (with_reducible exact h) | (with_reducible apply Bounded.post) | split)

theorem Bounded.enterWaitPower {t : State} (h : Bounded t) (b : BlowerId) (origin : Origin) (copy : SeqFields) :
    Bounded (State.enterWaitPower t b origin copy) := by
  unfold State.enterWaitPower
  try dsimp only
  repeat' (first
    | (with_reducible exact h) | (with_reducible apply Bounded.requestPower)
    | (with_reducible apply Bounded.testDeferral) | (with_reducible apply Bounded.enterBlower) | split)

theorem Bounded.startBlower {t : State} (h : Bounded t) (b : BlowerId) (origin : Origin) :
    Bounded (State.startBlower t b origin) := by
  unfold State.startBlower
  try dsimp only
  repeat' (first
    | (with_reducible exact h) | (with_reducible apply Bounded.setBlower)
    | (with_reducible apply Bounded.changed) | (with_reducible apply Bounded.enterWaitPower) | split)

theorem Bounded.enterMotorStart {t : State} (h : Bounded t) (b : BlowerId) (origin : Origin) (copy : SeqFields) :
    Bounded (State.enterMotorStart t b origin copy) := by
  unfold State.enterMotorStart
  try dsimp only
  repeat' (first
    | (with_reducible exact h) | (with_reducible apply Bounded.enterBlower))

theorem Bounded.enterRamp {t : State} (h : Bounded t) (b : BlowerId) (origin : Origin) (copy : SeqFields) :
    Bounded (State.enterRamp t b origin copy) := by
  unfold State.enterRamp
  try dsimp only
  repeat' (first
    | (with_reducible exact h) | (with_reducible apply Bounded.enterBlower))

theorem Bounded.failAttempt {t : State} (h : Bounded t) (b : BlowerId) (cause : FailureCause) :
    Bounded (State.failAttempt t b cause) := by
  unfold State.failAttempt
  try dsimp only
  repeat' (first
    | (with_reducible exact h) | (with_reducible apply Bounded.post) | (with_reducible apply Bounded.notify)
    | (with_reducible apply Bounded.releasePower) | (with_reducible apply Bounded.changed)
    | (with_reducible apply Bounded.enterBlower) | split)

theorem Bounded.turnOff {t : State} (h : Bounded t) (b : BlowerId) :
    Bounded (State.turnOff t b) := by
  unfold State.turnOff
  try dsimp only
  repeat' (first
    | (with_reducible exact h) | (with_reducible apply Bounded.enterBlower))

theorem Bounded.enterOff {t : State} (h : Bounded t) (b : BlowerId) :
    Bounded (State.enterOff t b) := by
  unfold State.enterOff
  try dsimp only
  repeat' (first
    | (with_reducible exact h) | (with_reducible apply Bounded.changed)
    | (with_reducible apply Bounded.turnOff))

theorem Bounded.enterRunDown {t : State} (h : Bounded t) (b : BlowerId) :
    Bounded (State.enterRunDown t b) := by
  unfold State.enterRunDown
  try dsimp only
  repeat' (first
    | (with_reducible exact h) | (with_reducible apply Bounded.enterBlower) | split)

theorem Bounded.finishStop {t : State} (h : Bounded t) (b : BlowerId) :
    Bounded (State.finishStop t b) := by
  unfold State.finishStop
  try dsimp only
  repeat' (first
    | (with_reducible exact h) | (with_reducible apply Bounded.releasePower)
    | (with_reducible apply Bounded.turnOff)
    | (with_reducible apply Bounded.changed))

theorem Bounded.failStop {t : State} (h : Bounded t) (b : BlowerId) :
    Bounded (State.failStop t b) := by
  unfold State.failStop
  try dsimp only
  repeat' (first
    | (with_reducible exact h) | (with_reducible apply Bounded.post) | (with_reducible apply Bounded.notify)
    | (with_reducible apply Bounded.changed) | (with_reducible apply Bounded.enterBlower))

theorem Bounded.abortStart {t : State} (h : Bounded t) (b : BlowerId) (step : StartStep) :
    Bounded (State.abortStart t b step) := by
  unfold State.abortStart
  try dsimp only
  repeat' (first
    | (with_reducible exact h) | (with_reducible apply Bounded.post) | (with_reducible apply Bounded.setBlower)
    | (with_reducible apply Bounded.withdrawPower) | (with_reducible apply Bounded.releasePower)
    | (with_reducible apply Bounded.enterOff) | (with_reducible apply Bounded.turnOff)
    | (with_reducible apply Bounded.finishStop) | (with_reducible apply Bounded.changed)
    | (with_reducible apply Bounded.enterRunDown) | split)

theorem Bounded.endSurgeHold {t : State} (h : Bounded t) (b : BlowerId) :
    Bounded (State.endSurgeHold t b) := by
  unfold State.endSurgeHold
  try dsimp only
  repeat' (first
    | (with_reducible exact h) | (with_reducible apply Bounded.enterBlower) | split)

theorem Bounded.endSurgeWatch {t : State} (h : Bounded t) (b : BlowerId) :
    Bounded (State.endSurgeWatch t b) := by
  unfold State.endSurgeWatch
  try dsimp only
  repeat' (first
    | (with_reducible exact h) | (with_reducible apply Bounded.post) | (with_reducible apply Bounded.setBlower)
    | split)

theorem Bounded.setBlind {t : State} (h : Bounded t) (b : BlowerId) (v : Bool) :
    Bounded (State.setBlind t b v) := by
  unfold State.setBlind
  try dsimp only
  repeat' (first
    | (with_reducible exact h) | (with_reducible apply Bounded.setBlower)
    | (with_reducible apply Bounded.changed) | split)

theorem Bounded.pumpOff {t : State} (h : Bounded t) (k : TrainId) :
    Bounded (State.pumpOff t k) := by
  unfold State.pumpOff
  try dsimp only
  repeat' (first
    | (with_reducible exact h) | (with_reducible apply Bounded.enterPump))

theorem Bounded.pumpTripped {t : State} (h : Bounded t) (k : TrainId) :
    Bounded (State.pumpTripped t k) := by
  unfold State.pumpTripped
  try dsimp only
  repeat' (first
    | (with_reducible exact h) | (with_reducible apply Bounded.post) | (with_reducible apply Bounded.enterPump))

theorem Bounded.withdrawIncrease {t : State} (h : Bounded t) (k : TrainId) :
    Bounded (State.withdrawIncrease t k) := by
  unfold State.withdrawIncrease
  try dsimp only
  repeat' (first
    | (with_reducible exact h) | (with_reducible apply Bounded.setTrain)
    | (with_reducible apply Bounded.withdrawPower) | (with_reducible apply Bounded.postRasLimited))

theorem Bounded.failPumpStart {t : State} (h : Bounded t) (k : TrainId) :
    Bounded (State.failPumpStart t k) := by
  unfold State.failPumpStart
  try dsimp only
  repeat' (first
    | (with_reducible exact h) | (with_reducible apply Bounded.releasePower)
    | (with_reducible apply Bounded.pumpTripped))

theorem Bounded.tripPump {t : State} (h : Bounded t) (k : TrainId) :
    Bounded (State.tripPump t k) := by
  unfold State.tripPump
  try dsimp only
  repeat' (first
    | (with_reducible exact h) | (with_reducible apply Bounded.releasePower)
    | (with_reducible apply Bounded.pumpTripped) | (with_reducible apply Bounded.withdrawIncrease))

theorem Bounded.stopPump {t : State} (h : Bounded t) (k : TrainId) :
    Bounded (State.stopPump t k) := by
  unfold State.stopPump
  try dsimp only
  repeat' (first
    | (with_reducible exact h) | (with_reducible apply Bounded.withdrawPower)
    | (with_reducible apply Bounded.releasePower) | (with_reducible apply Bounded.pumpOff)
    | (with_reducible apply Bounded.withdrawIncrease) | split)

theorem Bounded.startPump {t : State} (h : Bounded t) (k : TrainId) :
    Bounded (State.startPump t k) := by
  unfold State.startPump
  try dsimp only
  repeat' (first
    | (with_reducible exact h) | (with_reducible apply Bounded.presentPumpStart)
    | (with_reducible apply Bounded.enterPump))

theorem Bounded.takeSpeed {t : State} (h : Bounded t) (k : TrainId) (c : TrainFields) (speed : Nat) :
    Bounded (State.takeSpeed t k c speed) := (h.setPumpSpeed k speed).decreasePower k _

theorem Bounded.runCapped {t : State} (h : Bounded t) (k : TrainId) : Bounded (State.runCapped t k) := by
  unfold State.runCapped
  repeat' (first | (with_reducible exact h) | (with_reducible apply Bounded.takeSpeed) | split)

theorem Bounded.pumpConfirmed {t : State} (h : Bounded t) (k : TrainId) :
    Bounded (State.pumpConfirmed t k) := (h.enterPump k _).runCapped k

theorem Bounded.adoptPump {t : State} (h : Bounded t) (k : TrainId) :
    Bounded (State.adoptPump t k) := by
  unfold State.adoptPump
  try dsimp only
  repeat' (first
    | (with_reducible exact h) | (with_reducible apply Bounded.setTrain)
    | (with_reducible apply Bounded.adoptPower) | (with_reducible apply Bounded.pumpConfirmed) | split)

theorem Bounded.pumpFoundRunning {t : State} (h : Bounded t) (k : TrainId) :
    Bounded (State.pumpFoundRunning t k) := by
  unfold State.pumpFoundRunning
  repeat' (first
    | (with_reducible exact h) | (with_reducible apply Bounded.setTrain) | (with_reducible apply Bounded.adoptPump))

theorem Bounded.countPumpRunning {t : State} (h : Bounded t) (k : TrainId) (running : Bool) :
    Bounded (State.countPumpRunning t k running) := by
  unfold State.countPumpRunning
  try dsimp only
  repeat' (first
    | (with_reducible exact h) | (with_reducible apply Bounded.setTrain)
    | (with_reducible apply Bounded.pumpFoundRunning) | split)

theorem Bounded.testPump {t : State} (h : Bounded t) (k : TrainId) (sample : Option Bool) :
    Bounded (State.testPump t k sample) := by
  unfold State.testPump
  try dsimp only
  repeat' (first
    | (with_reducible exact h) | (with_reducible apply Bounded.pumpOff)
    | (with_reducible apply Bounded.tripPump) | (with_reducible apply Bounded.pumpConfirmed)
    | (with_reducible apply Bounded.adoptPump) | (with_reducible apply Bounded.countPumpRunning) | split)

theorem Bounded.countPumpTime {t : State} (h : Bounded t) (k : TrainId) :
    Bounded (State.countPumpTime t k) := by
  unfold State.countPumpTime
  try dsimp only
  repeat' (first
    | (with_reducible exact h) | (with_reducible apply Bounded.setTrain)
    | (with_reducible apply Bounded.failPumpStart) | split)

theorem Bounded.pumpFrame {t : State} (h : Bounded t) (d : HubId) (before : State) (k : TrainId) :
    Bounded (State.pumpFrame d before k t) := by
  unfold State.pumpFrame
  try dsimp only
  repeat' (first
    | (with_reducible exact h) | (with_reducible apply Bounded.testPump)
    | (with_reducible apply Bounded.countPumpTime) | split)

theorem Bounded.setBoost {t : State} (h : Bounded t) (k : TrainId) (v : Bool) :
    Bounded (State.setBoost t k v) := by
  unfold State.setBoost
  try dsimp only
  repeat' (first
    | (with_reducible exact h) | (with_reducible apply Bounded.post) | (with_reducible apply Bounded.setTrain))

theorem Bounded.evaluateBlanket {t : State} (h : Bounded t) (k : TrainId) (c : TrainFields) :
    Bounded (State.evaluateBlanket t k c) := by
  unfold State.evaluateBlanket
  try dsimp only
  repeat' (first
    | (with_reducible exact h) | (with_reducible apply Bounded.setTrain)
    | (with_reducible apply Bounded.setBoost) | split)

theorem Bounded.requestIncrease {t : State} (h : Bounded t) (k : TrainId) (c : TrainFields) (target : Nat) :
    Bounded (State.requestIncrease t k c target) := by
  unfold State.requestIncrease
  try dsimp only
  repeat' (first
    | (with_reducible exact h) | (with_reducible apply Bounded.setTrain)
    | (with_reducible apply Bounded.requestPower) | (with_reducible apply Bounded.withdrawIncrease)
    | (with_reducible apply Bounded.postRasLimited) | split)

theorem Bounded.pursueSpeed {t : State} (h : Bounded t) (k : TrainId) (c : TrainFields) (target : Nat) :
    Bounded (State.pursueSpeed t k c target) := by
  unfold State.pursueSpeed
  try dsimp only
  repeat' (first
    | (with_reducible exact h) | (with_reducible apply Bounded.takeSpeed)
    | (with_reducible apply Bounded.withdrawIncrease) | (with_reducible apply Bounded.requestIncrease) | split)

theorem Bounded.pacingPeriod {t : State} (h : Bounded t) (k : TrainId) :
    Bounded (State.pacingPeriod t k) := by
  unfold State.pacingPeriod
  try dsimp only
  repeat' (first
    | (with_reducible exact h) | (with_reducible apply Bounded.setTrain)
    | (with_reducible apply Bounded.evaluateBlanket) | (with_reducible apply Bounded.pursueSpeed) | split)

theorem Bounded.pumpSecond {t : State} (h : Bounded t) (k : TrainId) :
    Bounded (State.pumpSecond k t) := by
  unfold State.pumpSecond
  try dsimp only
  repeat' (first
    | (with_reducible exact h) | (with_reducible apply Bounded.setTrain)
    | (with_reducible apply Bounded.postRasLimited))

theorem Bounded.firstTrainSet {t : State} (h : Bounded t) (k : TrainId) (f : TrainFields) :
    Bounded (State.firstTrainSet t k f) := by
  unfold State.firstTrainSet
  try dsimp only
  repeat' (first
    | (with_reducible exact h) | (with_reducible apply Bounded.suppressTrain)
    | (with_reducible apply Bounded.pacingPeriod) | (with_reducible apply Bounded.enterPump))

theorem Bounded.takeTrainSet {t : State} (h : Bounded t) (k : TrainId) (f : TrainFields) :
    Bounded (State.takeTrainSet t k f) := by
  unfold State.takeTrainSet
  try dsimp only
  repeat' (first
    | (with_reducible exact h) | (with_reducible apply Bounded.setTrain)
    | (with_reducible apply Bounded.setBoost) | (with_reducible apply Bounded.firstTrainSet)
    | (with_reducible apply Bounded.writePump) | (with_reducible apply Bounded.reclaim) | split)

theorem Bounded.takeStormSet {t : State} (h : Bounded t) (f : StormFields) :
    Bounded (State.takeStormSet t f) := by
  unfold State.takeStormSet
  try dsimp only
  repeat' (first
    | (with_reducible exact h) | (with_reducible apply Bounded.setPlant))

theorem Bounded.trainSecond {t : State} (h : Bounded t) (k : TrainId) :
    Bounded (State.trainSecond k t) := by
  unfold State.trainSecond
  try dsimp only
  repeat' (first
    | (with_reducible exact h) | (with_reducible apply Bounded.pacingPeriod) | split)

theorem Bounded.setHeader {t : State} (h : Bounded t) (d : Header) :
    Bounded (State.setHeader t d) := ⟨h.one, h.fits⟩

theorem Bounded.writeCommon {t : State} (h : Bounded t) (b : BlowerId) :
    Bounded (State.writeCommon b t) := by
  unfold State.writeCommon
  try dsimp only
  repeat' (first
    | (with_reducible exact h) | (with_reducible apply Bounded.writeSlot) | split)

theorem Bounded.recomputeRange {t : State} (h : Bounded t) :
    Bounded (State.recomputeRange t) := by
  unfold State.recomputeRange
  try dsimp only
  repeat' (first
    | (with_reducible exact h) | (with_reducible apply Bounded.writeCommon)
    | (with_reducible apply Bounded.forAll) | (intro _ _ h) | split
    | (with_reducible apply Bounded.with_header))

theorem Bounded.joinOrder {t : State} (h : Bounded t) (b : BlowerId) (rated : Nat) :
    Bounded (State.joinOrder t b rated) := by
  unfold State.joinOrder
  try dsimp only
  repeat' (first
    | (with_reducible exact h) | (with_reducible apply Bounded.recomputeRange)
    | (with_reducible apply Bounded.addCapacity) | (with_reducible apply Bounded.with_online))

theorem Bounded.leaveOrder {t : State} (h : Bounded t) (b : BlowerId) :
    Bounded (State.leaveOrder t b) := by
  unfold State.leaveOrder
  try dsimp only
  repeat' (first
    | (with_reducible exact h) | (with_reducible apply Bounded.recomputeRange)
    | (with_reducible apply Bounded.with_online))

theorem Bounded.enterLoading {t : State} (h : Bounded t) (b : BlowerId) (origin : Origin) (copy : SeqFields) :
    Bounded (State.enterLoading t b origin copy) := by
  unfold State.enterLoading
  try dsimp only
  repeat' (first
    | (with_reducible exact h) | (with_reducible apply Bounded.enterBlower)
    | (with_reducible apply Bounded.claimFreeze))

theorem Bounded.goOnline {t : State} (h : Bounded t) (b : BlowerId) :
    Bounded (State.goOnline t b) := by
  unfold State.goOnline
  try dsimp only
  repeat' (first
    | (with_reducible exact h) | (with_reducible apply Bounded.setBlower)
    | (with_reducible apply Bounded.convertPower) | (with_reducible apply Bounded.joinOrder)
    | (with_reducible apply Bounded.changed) | (with_reducible apply Bounded.writeBlower) | split)

theorem Bounded.tripBlower {t : State} (h : Bounded t) (b : BlowerId) :
    Bounded (State.tripBlower t b) := by
  unfold State.tripBlower
  try dsimp only
  repeat' (first
    | (with_reducible exact h) | (with_reducible apply Bounded.post)
    | (with_reducible apply Bounded.releasePower) | (with_reducible apply Bounded.leaveOrder)
    | (with_reducible apply Bounded.changed) | (with_reducible apply Bounded.enterBlower)
    | (with_reducible apply Bounded.loseCapacity))

theorem Bounded.beginStop {t : State} (h : Bounded t) (b : BlowerId) (loss : Bool) :
    Bounded (State.beginStop t b loss) := by
  unfold State.beginStop
  try dsimp only
  repeat' (first
    | (with_reducible exact h) | (with_reducible apply Bounded.post)
    | (with_reducible apply Bounded.leaveOrder) | (with_reducible apply Bounded.changed)
    | (with_reducible apply Bounded.enterBlower) | (with_reducible apply Bounded.loseCapacity) | split)

theorem Bounded.adoptBlower {t : State} (h : Bounded t) (b : BlowerId) :
    Bounded (State.adoptBlower t b) := by
  unfold State.adoptBlower
  try dsimp only
  repeat' (first
    | (with_reducible exact h) | (with_reducible apply Bounded.setBlower)
    | (with_reducible apply Bounded.adoptPower) | (with_reducible apply Bounded.joinOrder)
    | (with_reducible apply Bounded.changed) | (with_reducible apply Bounded.writeBlower) | split)

theorem Bounded.stageIn {t : State} (h : Bounded t) :
    Bounded (State.stageIn t) := by
  unfold State.stageIn
  try dsimp only
  repeat' (first
    | (with_reducible exact h) | (with_reducible apply Bounded.startBlower) | split)

theorem Bounded.offerWithdrawal {t u : State} (h : Bounded t) (b : BlowerId)
    (taken : t.offerWithdrawal b = some u) : Bounded u := by
  unfold State.offerWithdrawal at taken
  split at taken
  · cases taken
  · split at taken
    · cases taken
      exact (h.dropCapacity b).retime _ _
    · cases taken

theorem Bounded.offerLast {t : State} (h : Bounded t) : Bounded t.offerLast := by
  unfold State.offerLast
  split
  · exact h
  · split
    · next e => exact (Bounded.offerWithdrawal h _ e).beginStop _ _
    · exact h

theorem Bounded.forcedStop {t : State} (h : Bounded t) :
    Bounded (State.forcedStop t) := by
  unfold State.forcedStop
  try dsimp only
  repeat' (first
    | (with_reducible exact h) | (with_reducible apply Bounded.beginStop) | split)

theorem Bounded.surge {t : State} (h : Bounded t) (b : BlowerId) :
    Bounded (State.surge t b) := by
  unfold State.surge
  try dsimp only
  repeat' (first
    | (with_reducible exact h) | (with_reducible apply Bounded.post) | (with_reducible apply Bounded.offerLast)
    | (with_reducible apply Bounded.enterBlower) | split)

theorem Bounded.countLowFlow {t : State} (h : Bounded t) (b : BlowerId) (c : BlowerFields) (flow : Option Int) :
    Bounded (State.countLowFlow t b c flow) := by
  unfold State.countLowFlow
  try dsimp only
  repeat' (first
    | (with_reducible exact h) | (with_reducible apply Bounded.setBlower)
    | (with_reducible apply Bounded.surge) | split)

theorem Bounded.countRunning {t : State} (h : Bounded t) (b : BlowerId) (running : Bool) :
    Bounded (State.countRunning t b running) := by
  unfold State.countRunning
  try dsimp only
  repeat' (first
    | (with_reducible exact h) | (with_reducible apply Bounded.setBlower)
    | (with_reducible apply Bounded.adoptBlower) | split)

theorem Bounded.testRunning {t : State} (h : Bounded t) (b : BlowerId) (sample : Option Bool) :
    Bounded (State.testRunning t b sample) := by
  unfold State.testRunning
  try dsimp only
  repeat' (first
    | (with_reducible exact h) | (with_reducible apply Bounded.setBlower)
    | (with_reducible apply Bounded.releasePower) | (with_reducible apply Bounded.enterRamp)
    | (with_reducible apply Bounded.failAttempt) | (with_reducible apply Bounded.enterOff)
    | (with_reducible apply Bounded.tripBlower) | (with_reducible apply Bounded.finishStop)
    | (with_reducible apply Bounded.adoptBlower) | (with_reducible apply Bounded.setBlind)
    | (with_reducible apply Bounded.countRunning) | split)

theorem Bounded.testBlowoff {t : State} (h : Bounded t) (b : BlowerId) (opening : Option Int) :
    Bounded (State.testBlowoff t b opening) := by
  unfold State.testBlowoff
  try dsimp only
  repeat' (first
    | (with_reducible exact h) | (with_reducible apply Bounded.enterMotorStart)
    | (with_reducible apply Bounded.goOnline) | (with_reducible apply Bounded.enterRunDown) | split)

theorem Bounded.testFlow {t : State} (h : Bounded t) (b : BlowerId) (c : BlowerFields) (flow : Option Int) :
    Bounded (State.testFlow t b c flow) := by
  unfold State.testFlow
  try dsimp only
  repeat' (first
    | (with_reducible exact h) | (with_reducible apply Bounded.enterLoading)
    | (with_reducible apply Bounded.countLowFlow) | split)

theorem Bounded.endBlowoffTime {t : State} (h : Bounded t) (b : BlowerId) (c : BlowerFields) :
    Bounded (State.endBlowoffTime t b c) := by
  unfold State.endBlowoffTime
  try dsimp only
  repeat' (first
    | (with_reducible exact h) | (with_reducible apply Bounded.enterMotorStart)
    | (with_reducible apply Bounded.goOnline) | (with_reducible apply Bounded.failAttempt) | split)

theorem Bounded.endStepTime {t : State} (h : Bounded t) (b : BlowerId) (c : BlowerFields) :
    Bounded (State.endStepTime t b c) := by
  unfold State.endStepTime
  try dsimp only
  repeat' (first
    | (with_reducible exact h) | (with_reducible apply Bounded.setBlower)
    | (with_reducible apply Bounded.failAttempt) | (with_reducible apply Bounded.enterRunDown)
    | (with_reducible apply Bounded.failStop) | (with_reducible apply Bounded.endBlowoffTime) | split)

theorem Bounded.countBlowerTime {t : State} (h : Bounded t) (b : BlowerId) (c : BlowerFields) :
    Bounded (State.countBlowerTime t b c) := by
  unfold State.countBlowerTime
  try dsimp only
  repeat' (first
    | (with_reducible exact h) | (with_reducible apply Bounded.setBlower)
    | (with_reducible apply Bounded.surge) | (with_reducible apply Bounded.endSurgeHold)
    | (with_reducible apply Bounded.endSurgeWatch) | (with_reducible apply Bounded.endStepTime) | split)

theorem Bounded.testRetry {t : State} (h : Bounded t) (b : BlowerId) (sample : Option Bool) :
    Bounded (State.testRetry t b sample) := by
  unfold State.testRetry
  try dsimp only
  repeat' (first
    | (with_reducible exact h) | (with_reducible apply Bounded.enterWaitPower) | split)

theorem Bounded.blowerFrame {t : State} (h : Bounded t) (d : HubId) (before : State) (b : BlowerId) :
    Bounded (State.blowerFrame d before b t) := by
  unfold State.blowerFrame
  try dsimp only
  repeat' (first
    | (with_reducible exact h) | (with_reducible apply Bounded.surge)
    | (with_reducible apply Bounded.testRunning) | (with_reducible apply Bounded.testBlowoff)
    | (with_reducible apply Bounded.testFlow) | (with_reducible apply Bounded.countBlowerTime)
    | (with_reducible apply Bounded.testRetry) | split)

theorem Bounded.takeBlowerSet {t : State} (h : Bounded t) (b : BlowerId) (f : BlowerFields) :
    Bounded (State.takeBlowerSet t b f) := by
  unfold State.takeBlowerSet
  try dsimp only
  repeat' (first
    | (with_reducible exact h) | (with_reducible apply Bounded.suppressBlower)
    | (with_reducible apply Bounded.setBlower) | (with_reducible apply Bounded.recomputeRange)
    | (with_reducible apply Bounded.writeBlower) | (with_reducible apply Bounded.reclaim) | split)

theorem Bounded.shortfallEnds {t : State} (h : Bounded t) :
    Bounded (State.shortfallEnds t) := by
  unfold State.shortfallEnds
  try dsimp only
  repeat' (first
    | (with_reducible exact h) | (with_reducible apply Bounded.stageIn)
    | (with_reducible apply Bounded.with_air))

theorem Bounded.surplusEnds {t : State} (h : Bounded t) :
    Bounded (State.surplusEnds t) := by
  unfold State.surplusEnds
  try dsimp only
  repeat' (first
    | (with_reducible exact h) | (with_reducible apply Bounded.offerLast)
    | (with_reducible apply Bounded.with_air))

theorem Bounded.shedExpires {t : State} (h : Bounded t) :
    Bounded (State.shedExpires t) := by
  unfold State.shedExpires
  try dsimp only
  repeat' (first
    | (with_reducible exact h) | (with_reducible apply Bounded.setBudget)
    | (with_reducible apply Bounded.forcedStop) | split)

theorem Bounded.runLoop {t : State} (h : Bounded t) (f : HeaderFields) :
    Bounded (State.runLoop t f) := by
  unfold State.runLoop
  try dsimp only
  repeat' (first
    | (with_reducible exact h) | (with_reducible apply Bounded.setHeader)
    | (with_reducible apply Bounded.writeCommon) | (with_reducible apply Bounded.forAll) | (intro _ _ h)
    | split)

theorem Bounded.headerPeriod {t : State} (h : Bounded t) :
    Bounded (State.headerPeriod t) := by
  unfold State.headerPeriod
  try dsimp only
  repeat' (first
    | (with_reducible exact h) | (with_reducible apply Bounded.post) | (with_reducible apply Bounded.setHeader)
    | (with_reducible apply Bounded.runLoop) | split)

theorem Bounded.movPeriod {t : State} (h : Bounded t) :
    Bounded (State.movPeriod t) := by
  unfold State.movPeriod
  try dsimp only
  repeat' (first
    | (with_reducible exact h) | (with_reducible apply Bounded.setHeader) | split)

theorem Bounded.takeHeaderSet {t : State} (h : Bounded t) (f : HeaderFields) :
    Bounded (State.takeHeaderSet t f) := by
  unfold State.takeHeaderSet
  try dsimp only
  repeat' (first
    | (with_reducible exact h) | (with_reducible apply Bounded.setHeader)
    | (with_reducible apply Bounded.headerPeriod) | (with_reducible apply Bounded.movPeriod) | split)

theorem Bounded.stormEntry {t : State} (h : Bounded t) :
    Bounded (State.stormEntry t) := by
  unfold State.stormEntry
  try dsimp only
  repeat' (first
    | (with_reducible exact h) | (with_reducible apply Bounded.post)
    | (with_reducible apply Bounded.presentTrigger) | (with_reducible apply Bounded.wake)
    | (with_reducible apply Bounded.setPlant) | (with_reducible apply Bounded.forAll) | (intro _ _ h))

theorem Bounded.stormExit {t : State} (h : Bounded t) :
    Bounded (State.stormExit t) := by
  unfold State.stormExit
  try dsimp only
  repeat' (first
    | (with_reducible exact h) | (with_reducible apply Bounded.post) | (with_reducible apply Bounded.repark)
    | (with_reducible apply Bounded.setPlant) | (with_reducible apply Bounded.forAll) | (intro _ _ h))

theorem Bounded.evaluateStorm {t : State} (h : Bounded t) :
    Bounded (State.evaluateStorm t) := by
  unfold State.evaluateStorm
  try dsimp only
  repeat' (first
    | (with_reducible exact h) | (with_reducible apply Bounded.setPlant)
    | (with_reducible apply Bounded.stormEntry) | (with_reducible apply Bounded.stormExit) | split)

theorem Bounded.forceStorm {t : State} (h : Bounded t) (f : Force) :
    Bounded (State.forceStorm t f) := by
  unfold State.forceStorm
  try dsimp only
  repeat' (first
    | (with_reducible exact h) | (with_reducible apply Bounded.setPlant)
    | (with_reducible apply Bounded.stormEntry) | (with_reducible apply Bounded.stormExit) | split)

theorem Bounded.countShortfall {t : State} (h : Bounded t) :
    Bounded (State.countShortfall t) := by
  unfold State.countShortfall
  try dsimp only
  repeat' (first
    | (with_reducible exact h) | (with_reducible apply Bounded.shortfallEnds) | split
    | (with_reducible apply Bounded.with_air))

theorem Bounded.countSurplus {t : State} (h : Bounded t) :
    Bounded (State.countSurplus t) := by
  unfold State.countSurplus
  try dsimp only
  repeat' (first
    | (with_reducible exact h) | (with_reducible apply Bounded.surplusEnds) | split
    | (with_reducible apply Bounded.with_air))

theorem Bounded.airSecond {t : State} (h : Bounded t) :
    Bounded (State.airSecond t) := by
  unfold State.airSecond
  try dsimp only
  repeat' (first
    | (with_reducible exact h) | (with_reducible apply Bounded.countShortfall)
    | (with_reducible apply Bounded.countSurplus) | (with_reducible apply Bounded.countFreeze)
    | (with_reducible apply Bounded.testStarvation) | (with_reducible apply Bounded.refresh))

theorem Bounded.headerSecond {t : State} (h : Bounded t) :
    Bounded (State.headerSecond t) := by
  unfold State.headerSecond
  try dsimp only
  repeat' (first
    | (with_reducible exact h) | (with_reducible apply Bounded.headerPeriod)
    | (with_reducible apply Bounded.movPeriod) | split)

theorem Bounded.freezeChannel {t : State} (h : Bounded t) (k : ChannelId) :
    Bounded (State.freezeChannel t k) := by
  unfold State.freezeChannel
  try dsimp only
  repeat' (first
    | (with_reducible exact h) | (with_reducible apply Bounded.setChannel)
    | (with_reducible apply Bounded.notify))

theorem Bounded.takeSample {t : State} (h : Bounded t) (k : ChannelId) :
    Bounded (State.takeSample t k) := by
  unfold State.takeSample
  try dsimp only
  repeat' (first
    | (with_reducible exact h) | (with_reducible apply Bounded.freezeChannel)
    | (with_reducible apply Bounded.setChannel) | split)

theorem Bounded.captureFrame {t : State} (h : Bounded t) (d : HubId) (k : ChannelId) :
    Bounded (State.captureFrame d k t) := by
  unfold State.captureFrame
  try dsimp only
  repeat' (first
    | (with_reducible exact h) | (with_reducible apply Bounded.takeSample)
    | (with_reducible apply Bounded.setChannel) | split)

theorem Bounded.hostTrigger {t : State} (h : Bounded t) (k : ChannelId) :
    Bounded (State.hostTrigger k t) := by
  unfold State.hostTrigger
  try dsimp only
  repeat' (first
    | (with_reducible exact h) | (with_reducible apply Bounded.setChannel) | split)

theorem Bounded.setHub {t : State} (h : Bounded t) (d : HubId) (r : Hub) :
    Bounded (State.setHub t d r) := ⟨h.one, h.fits⟩

theorem Bounded.setPoint {t : State} (h : Bounded t) (p : PointId) (r : Point) :
    Bounded (State.setPoint t p r) := ⟨h.one, h.fits⟩

theorem Bounded.rejudge {t : State} (h : Bounded t) (p : PointId) :
    Bounded (State.rejudge p t) := by
  unfold State.rejudge
  try dsimp only
  repeat' (first
    | (with_reducible exact h) | (with_reducible apply Bounded.setPoint))

theorem Bounded.updatePoints {t : State} (h : Bounded t) (d : HubId) (frame : Option ReturnFrame) :
    Bounded (State.updatePoints t d frame) := by
  unfold State.updatePoints
  try dsimp only
  repeat' (first
    | (with_reducible exact h) | (with_reducible apply Bounded.setPoint)
    | (with_reducible apply Bounded.forAll) | (intro _ _ h))

theorem Bounded.reportHub {t : State} (h : Bounded t) (d : HubId) :
    Bounded (State.reportHub t d) := by
  unfold State.reportHub
  try dsimp only
  repeat' (first
    | (with_reducible exact h) | (with_reducible apply Bounded.post) | (with_reducible apply Bounded.notify))

theorem Bounded.latchRequest {t : State} (h : Bounded t) (d : HubId) (f : ReturnFrame) :
    Bounded (State.latchRequest t d f) := by
  unfold State.latchRequest
  try dsimp only
  repeat' (first
    | (with_reducible exact h) | (with_reducible apply Bounded.setHub) | (with_reducible apply Bounded.notify)
    | split)

theorem Bounded.endService {t : State} (h : Bounded t) (result : ServiceResult) (value : Nat) :
    Bounded (State.endService t result value) := by
  unfold State.endService
  try dsimp only
  repeat' (first
    | (with_reducible exact h) | (with_reducible apply Bounded.notify)
    | (with_reducible apply Bounded.with_service))

theorem Bounded.carryService {t : State} (h : Bounded t) :
    Bounded (State.carryService t) := by
  unfold State.carryService
  try dsimp only
  repeat' (first
    | (with_reducible exact h) | (with_reducible apply Bounded.endService) | split
    | (with_reducible apply Bounded.with_service))

theorem Bounded.judgeService {t : State} (h : Bounded t) (d : HubId) (frame : Option ReturnFrame) (lost : Bool) :
    Bounded (State.judgeService t d frame lost) := by
  unfold State.judgeService
  try dsimp only
  repeat' (first
    | (with_reducible exact h) | (with_reducible apply Bounded.endService)
    | (with_reducible apply Bounded.carryService) | split)

theorem Bounded.frameUpdates {t : State} (h : Bounded t) (d : HubId) (before : State) :
    Bounded (State.frameUpdates t d before) := by
  unfold State.frameUpdates
  try dsimp only
  repeat' (first
    | (with_reducible exact h) | (with_reducible apply Bounded.laneFeedback)
    | (with_reducible apply Bounded.blowerFrame) | (with_reducible apply Bounded.pumpFrame)
    | (with_reducible apply Bounded.forAll) | (intro _ _ h))

theorem Bounded.judgeHub {t : State} (h : Bounded t) (d : HubId) (frame : Option ReturnFrame) (wrongId : Bool) :
    Bounded (State.judgeHub t d frame wrongId) := by
  unfold State.judgeHub
  split
  · exact h
  · extract_lets was t₁ t₂ changed t₃ t₄
    have h₁ : Bounded t₁ := (h.setHub _ _).updatePoints _ _
    have h₂ : Bounded t₂ := h₁.forAll fun _ _ h => h.captureFrame _ _
    have h₃ : Bounded t₃ := by
      show Bounded (if changed then t₂.reportHub d else t₂)
      split
      · exact h₂.reportHub _
      · exact h₂
    have h₄ : Bounded t₄ := by
      show Bounded (match frame with
        | some f => t₃.latchRequest d f
        | none => t₃)
      split
      · exact h₃.latchRequest _ _
      · exact h₃
    exact (h₄.judgeService _ _ _).frameUpdates _ _

theorem Bounded.judgeFrame {t : State} (h : Bounded t) (d : HubId) (f : ReturnFrame) :
    Bounded (State.judgeFrame t d f) := by
  unfold State.judgeFrame
  try dsimp only
  repeat' (first
    | (with_reducible exact h) | (with_reducible apply Bounded.judgeHub) | split)

theorem Bounded.setMaint {t : State} (h : Bounded t) (p : PointId) (time : Nat) :
    Bounded (State.setMaint t p time) := by
  unfold State.setMaint
  try dsimp only
  repeat' (first
    | (with_reducible exact h) | (with_reducible apply Bounded.setPoint)
    | (with_reducible apply Bounded.rejudge))

theorem Bounded.startService {t : State} (h : Bounded t) (d : HubId) (code address value : Nat) :
    Bounded (State.startService t d code address value) := by
  unfold State.startService
  try dsimp only
  repeat' (first
    | (with_reducible exact h) | (with_reducible apply Bounded.endService) | split
    | (with_reducible apply Bounded.with_service))

theorem Bounded.changeHub {t : State} (h : Bounded t) (d : HubId) (r : Hub) :
    Bounded (State.changeHub t d r) := by
  unfold State.changeHub
  try dsimp only
  repeat' (first
    | (with_reducible exact h) | (with_reducible apply Bounded.setHub) | (with_reducible apply Bounded.rejudge)
    | (with_reducible apply Bounded.reportHub) | (with_reducible apply Bounded.forAll) | (intro _ _ h))

theorem Bounded.endMaint {t : State} (h : Bounded t) (p : PointId) :
    Bounded (State.endMaint p t) := by
  unfold State.endMaint
  try dsimp only
  repeat' (first
    | (with_reducible exact h) | (with_reducible apply Bounded.setPoint)
    | (with_reducible apply Bounded.rejudge) | split)

theorem Bounded.countTimers {t : State} (h : Bounded t) :
    Bounded (State.countTimers t) := ⟨h.one, h.fits⟩

theorem Bounded.maintSecond {t : State} (h : Bounded t) (p : PointId) :
    Bounded (State.maintSecond p t) := by
  unfold State.maintSecond
  try dsimp only
  repeat' (first
    | (with_reducible exact h) | (with_reducible apply Bounded.endMaint) | split)

theorem Bounded.takeTurns {α : Type} {t : State} {turn : α → State → State} {xs : List α} (h : Bounded t)
    (step : ∀ x u, Bounded u → Bounded (turn x u)) : Bounded (Machine.takeTurns xs turn t) :=
  h.forAll fun x u h => (step x u h).refresh

theorem Bounded.takeTimers {t : State} (h : Bounded t) : Bounded t.takeTimers := by
  unfold State.takeTimers
  extract_lets t₁ t₂ t₃ t₄ t₅ t₆
  have h₁ : Bounded t₁ := h.takeTurns fun _ _ h => h.entrySecond _
  have h₂ : Bounded t₂ := (h₁.takeTurns fun _ _ h => h.maintSecond _).airSecond
  have h₃ : Bounded t₃ := by
    show Bounded (if t₂.budget.shedTimer = some 0 then t₂.shedExpires.refresh else t₂)
    split
    · exact h₂.shedExpires.refresh
    · exact h₂
  have h₄ : Bounded t₄ := (h₃.takeTurns fun _ _ h => h.testDeferral _).takeTurns fun _ _ h => h.pumpSecond _
  have h₅ : Bounded t₅ := (h₄.takeTurns fun _ _ h => h.laneSecond _).headerSecond.refresh
  have h₆ : Bounded t₆ := h₅.takeTurns fun _ _ h => h.trainSecond _
  split
  · exact h₆.evaluateStorm.refresh
  · exact h₆

theorem Bounded.second {t : State} (h : Bounded t) : Bounded t.second := by
  unfold State.second
  split
  · exact Bounded.takeTimers (Bounded.countTimers ⟨h.one, h.fits⟩)
  · exact h.with_frameCount _

theorem Bounded.endPeriod {t : State} (h : Bounded t) :
    Bounded (State.endPeriod t) := by
  unfold State.endPeriod
  have passed : Bounded { t with alarm := t.alarm.frame } := h.with_alarm _ (by unfold AlarmUnit.frame; split <;> rfl)
  dsimp only
  split
  · exact (passed.takeTurns fun _ _ h => h.judgeHub _ _ _).with_hubs _
  · exact passed.with_hubs _

theorem Bounded.sendOutbound {t : State} (h : Bounded t) :
    Bounded (State.sendOutbound t) := ⟨h.one, h.fits⟩

theorem Bounded.countFrame {t : State} (h : Bounded t) :
    Bounded (State.countFrame t) := by
  unfold State.countFrame
  try dsimp only
  repeat' (first
    | (with_reducible exact h) | (with_reducible apply Bounded.second) | split
    | (with_reducible apply Bounded.with_frameCount))

theorem Bounded.boundary {t : State} (h : Bounded t) : Bounded t.boundary := by
  unfold State.boundary
  exact h.endPeriod.sendOutbound.countFrame

theorem Bounded.warmRecords {t : State} (h : Bounded t) : Bounded t.warmRecords := by
  have notices : t.warmRecords.notices = t.notices := by simp only [State.warmRecords]
  have history : t.warmRecords.alarm.history = t.alarm.history := by simp only [State.warmRecords, AlarmUnit.warm]
  refine ⟨?_, ?_⟩
  · unfold State.OneRecordPerSource; rw [notices]; exact h.one
  · unfold State.HistoryFits; rw [history]; exact h.fits

theorem Bounded.warmValve {t : State} (h : Bounded t) (l : LaneId) :
    Bounded (State.warmValve l t) := by
  unfold State.warmValve
  try dsimp only
  repeat' (first
    | (with_reducible exact h) | (with_reducible apply Bounded.writeValve)
    | (with_reducible apply Bounded.dropValve) | split)

theorem Bounded.warmSlots {t : State} (h : Bounded t) : Bounded t.warmSlots := by
  unfold State.warmSlots
  extract_lets t₁ t₂
  have h₁ : Bounded t₁ := h.forAll fun _ _ h => h.writeBlower _
  have h₂ : Bounded t₂ := h₁.forAll fun _ _ h => h.writePump _
  exact h₂.forAll fun _ _ h => h.warmValve _

theorem Bounded.warmBlowerPosts {t : State} (h : Bounded t) (b : BlowerId) :
    Bounded (State.warmBlowerPosts b t) := by
  unfold State.warmBlowerPosts
  try dsimp only
  repeat' (first
    | (with_reducible exact h) | (with_reducible apply Bounded.post))

theorem Bounded.warmTrainPosts {t : State} (h : Bounded t) (k : TrainId) :
    Bounded (State.warmTrainPosts k t) := by
  unfold State.warmTrainPosts
  try dsimp only
  repeat' (first
    | (with_reducible exact h) | (with_reducible apply Bounded.post))

theorem Bounded.warmRequest {t : State} (h : Bounded t) (l : LaneId) :
    Bounded (State.warmRequest l t) := by
  unfold State.warmRequest
  try dsimp only
  repeat' (first
    | (with_reducible exact h) | (with_reducible apply Bounded.requestAir) | split)

end Sys2Proof.Machine
end

