-- ==== Sys2Proof/Laws/PerInstr.lean ====
section
/-! SUPPORT. A fact about every command as syntax: a request's frame is of one of the kinds of section 11.2. -/

namespace Sys2Proof.Laws.RequestKind
open Sys2Proof Sys2Proof.Machine

/-- The command's frame, if it has one, is of a request kind, and no reply kind (section 11.2). -/
def Statement (c : Instr) : Prop := ∀ f, c.frame? = some f → f.kind ∈ requestKinds ∧ f.kind < 0x80

/-- Is a kind byte one of section 11.2's, below the reply kinds? -/
def known (kind : Nat) : Bool := requestKinds.contains kind && decide (kind < 0x80)

theorem of_kind {c : Instr} {f : RequestFrame} (frame : c.frame? = some f) (kind : known f.kind = true) :
    Statement c := by
  intro g h
  rw [frame] at h
  cases h
  simpa [known] using kind

theorem of_event {c : Instr} (frame : c.frame? = none) : Statement c := by
  intro g h
  rw [frame] at h
  cases h

theorem coldReset (strap1 strap0 : Bool) : Statement (.coldReset strap1 strap0) := of_event rfl
theorem resetPinAsserted : Statement (.resetPinAsserted) := of_event rfl
theorem hostFrameDiscarded (bytes : List Byte) : Statement (.hostFrameDiscarded bytes) := of_event rfl
theorem interbyteTimeout (bytes : List Byte) : Statement (.interbyteTimeout bytes) := of_event rfl
theorem frameDuringReply (kind : Nat) (body : List Byte) : Statement (.frameDuringReply kind body) := of_event rfl
theorem unknownKindRequest (kind : Nat) (body : List Byte) : Statement (.unknownKindRequest kind body) := of_event rfl
theorem pointSet (len point : Nat) (f : PointFields) : Statement (.pointSet len point f) := of_kind rfl rfl
theorem pointRead (len first count : Nat) : Statement (.pointRead len first count) := of_kind rfl rfl
theorem pointMaint (len point time : Nat) : Statement (.pointMaint len point time) := of_kind rfl rfl
theorem hubRead (len hub : Nat) : Statement (.hubRead len hub) := of_kind rfl rfl
theorem hubRequestTake (len hub : Nat) : Statement (.hubRequestTake len hub) := of_kind rfl rfl
theorem hubService (len hub code address value : Nat) : Statement (.hubService len hub code address value) :=
  of_kind rfl rfl
theorem serviceResult (len : Nat) : Statement (.serviceResult len) := of_kind rfl rfl
theorem laneSet (len lane : Nat) (f : LaneFields) : Statement (.laneSet len lane f) := of_kind rfl rfl
theorem laneCurve (len lane : Nat) (curve : List (Nat × Nat)) : Statement (.laneCurve len lane curve) :=
  of_kind rfl rfl
theorem laneMode (len lane mode : Nat) : Statement (.laneMode len lane mode) := of_kind rfl rfl
theorem laneManualAir (len lane air : Nat) : Statement (.laneManualAir len lane air) := of_kind rfl rfl
theorem laneFaultSet (len lane : Nat) (f : FaultFields) : Statement (.laneFaultSet len lane f) := of_kind rfl rfl
theorem laneGate (len lane gate : Nat) : Statement (.laneGate len lane gate) := of_kind rfl rfl
theorem laneRelease (len lane : Nat) : Statement (.laneRelease len lane) := of_kind rfl rfl
theorem laneRead (len lane part : Nat) : Statement (.laneRead len lane part) := of_kind rfl rfl
theorem laneFaultRead (len lane clear : Nat) : Statement (.laneFaultRead len lane clear) := of_kind rfl rfl
theorem airSet (len : Nat) (f : AirFields) : Statement (.airSet len f) := of_kind rfl rfl
theorem airFreeze (len seconds : Nat) : Statement (.airFreeze len seconds) := of_kind rfl rfl
theorem airRead (len : Nat) : Statement (.airRead len) := of_kind rfl rfl
theorem blowerSet (len blower : Nat) (f : BlowerFields) : Statement (.blowerSet len blower f) := of_kind rfl rfl
theorem blowerStart (len blower : Nat) : Statement (.blowerStart len blower) := of_kind rfl rfl
theorem blowerStop (len blower : Nat) : Statement (.blowerStop len blower) := of_kind rfl rfl
theorem blowerReset (len blower : Nat) : Statement (.blowerReset len blower) := of_kind rfl rfl
theorem blowerLockout (len blower : Nat) : Statement (.blowerLockout len blower) := of_kind rfl rfl
theorem blowerUnlock (len blower : Nat) : Statement (.blowerUnlock len blower) := of_kind rfl rfl
theorem dutySet (len : Nat) (duty : List Nat) : Statement (.dutySet len duty) := of_kind rfl rfl
theorem headerSet (len : Nat) (f : HeaderFields) : Statement (.headerSet len f) := of_kind rfl rfl
theorem blowerRead (len blower part : Nat) : Statement (.blowerRead len blower part) := of_kind rfl rfl
theorem headerRead (len : Nat) : Statement (.headerRead len) := of_kind rfl rfl
theorem ceilingSet (len ceiling mode shedDelay : Nat) : Statement (.ceilingSet len ceiling mode shedDelay) :=
  of_kind rfl rfl
theorem budgetRead (len : Nat) : Statement (.budgetRead len) := of_kind rfl rfl
theorem trainSet (len train : Nat) (f : TrainFields) : Statement (.trainSet len train f) := of_kind rfl rfl
theorem pumpStart (len train : Nat) : Statement (.pumpStart len train) := of_kind rfl rfl
theorem pumpStop (len train : Nat) : Statement (.pumpStop len train) := of_kind rfl rfl
theorem pumpReset (len train : Nat) : Statement (.pumpReset len train) := of_kind rfl rfl
theorem pumpLockout (len train : Nat) : Statement (.pumpLockout len train) := of_kind rfl rfl
theorem pumpUnlock (len train : Nat) : Statement (.pumpUnlock len train) := of_kind rfl rfl
theorem stormSet (len : Nat) (f : StormFields) : Statement (.stormSet len f) := of_kind rfl rfl
theorem stormForce (len force : Nat) : Statement (.stormForce len force) := of_kind rfl rfl
theorem trainRead (len train part : Nat) : Statement (.trainRead len train part) := of_kind rfl rfl
theorem alarmSet (len entry priority onDelay offDelay : Nat) : Statement (.alarmSet len entry priority onDelay offDelay) :=
  of_kind rfl rfl
theorem escalationSet (len time threshold : Nat) : Statement (.escalationSet len time threshold) := of_kind rfl rfl
theorem alarmAck (len entry : Nat) : Statement (.alarmAck len entry) := of_kind rfl rfl
theorem alarmShelve (len entry time : Nat) : Statement (.alarmShelve len entry time) := of_kind rfl rfl
theorem alarmUnshelve (len entry : Nat) : Statement (.alarmUnshelve len entry) := of_kind rfl rfl
theorem silence (len : Nat) : Statement (.silence len) := of_kind rfl rfl
theorem alarmListRead (len view page : Nat) : Statement (.alarmListRead len view page) := of_kind rfl rfl
theorem historyRead (len count : Nat) : Statement (.historyRead len count) := of_kind rfl rfl
theorem captureSet (len channel : Nat) (f : CaptureFields) : Statement (.captureSet len channel f) := of_kind rfl rfl
theorem captureArm (len channel : Nat) : Statement (.captureArm len channel) := of_kind rfl rfl
theorem captureTrigger (len channel : Nat) : Statement (.captureTrigger len channel) := of_kind rfl rfl
theorem captureRead (len channel offset count : Nat) : Statement (.captureRead len channel offset count) :=
  of_kind rfl rfl
theorem captureRelease (len channel : Nat) : Statement (.captureRelease len channel) := of_kind rfl rfl
theorem identify (len : Nat) : Statement (.identify len) := of_kind rfl rfl
theorem statusRead (len : Nat) : Statement (.statusRead len) := of_kind rfl rfl
theorem noticeRead (len : Nat) : Statement (.noticeRead len) := of_kind rfl rfl
theorem restart (len : Nat) : Statement (.restart len) := of_kind rfl rfl
theorem warmRestart : Statement (.warmRestart) := of_event rfl
theorem framePeriodBoundary : Statement (.framePeriodBoundary) := of_event rfl
theorem uptimeSecond : Statement (.uptimeSecond) := of_event rfl
theorem returnFrameJudged (line : HubId) (frame : ReturnFrame) : Statement (.returnFrameJudged line frame) :=
  of_event rfl
theorem returnMiss (hub : HubId) : Statement (.returnMiss hub) := of_event rfl
theorem hubAbsentEntered (hub : HubId) : Statement (.hubAbsentEntered hub) := of_event rfl
theorem hubPresentEntered (hub : HubId) : Statement (.hubPresentEntered hub) := of_event rfl
theorem pointStale (point : PointId) : Statement (.pointStale point) := of_event rfl
theorem maintWindowEnd (point : PointId) : Statement (.maintWindowEnd point) := of_event rfl
theorem serviceNoAnswer : Statement (.serviceNoAnswer) := of_event rfl
theorem lanePeriod (lane : LaneId) : Statement (.lanePeriod lane) := of_event rfl
theorem flowMismatchDetected (lane : LaneId) : Statement (.flowMismatchDetected lane) := of_event rfl
theorem valveWindowEnd (lane : LaneId) : Statement (.valveWindowEnd lane) := of_event rfl
theorem valveRetryRevalidate (lane : LaneId) : Statement (.valveRetryRevalidate lane) := of_event rfl
theorem airServing : Statement (.airServing) := of_event rfl
theorem freezeEnd : Statement (.freezeEnd) := of_event rfl
theorem entryStarved (lane : LaneId) : Statement (.entryStarved lane) := of_event rfl
theorem stageInWanted : Statement (.stageInWanted) := of_event rfl
theorem stageOutWanted : Statement (.stageOutWanted) := of_event rfl
theorem powerAdmission : Statement (.powerAdmission) := of_event rfl
theorem blowoffTimeEnd (blower : BlowerId) : Statement (.blowoffTimeEnd blower) := of_event rfl
theorem runConfirmTimeout (blower : BlowerId) : Statement (.runConfirmTimeout blower) := of_event rfl
theorem rampTimeout (blower : BlowerId) : Statement (.rampTimeout blower) := of_event rfl
theorem retryDelayEnd (blower : BlowerId) : Statement (.retryDelayEnd blower) := of_event rfl
theorem startDeferred (blower : BlowerId) : Statement (.startDeferred blower) := of_event rfl
theorem unloadingTimeEnd (blower : BlowerId) : Statement (.unloadingTimeEnd blower) := of_event rfl
theorem stopConfirmTimeout (blower : BlowerId) : Statement (.stopConfirmTimeout blower) := of_event rfl
theorem blowerFoundRunning (blower : BlowerId) : Statement (.blowerFoundRunning blower) := of_event rfl
theorem surgeDetected (blower : BlowerId) : Statement (.surgeDetected blower) := of_event rfl
theorem surgeHoldEnd (blower : BlowerId) : Statement (.surgeHoldEnd blower) := of_event rfl
theorem surgeWatchEnd (blower : BlowerId) : Statement (.surgeWatchEnd blower) := of_event rfl
theorem headerPeriod : Statement (.headerPeriod) := of_event rfl
theorem movPeriod : Statement (.movPeriod) := of_event rfl
theorem shedTimerExpiry : Statement (.shedTimerExpiry) := of_event rfl
theorem pacingPeriod (train : TrainId) : Statement (.pacingPeriod train) := of_event rfl
theorem blanketBoostOn (train : TrainId) : Statement (.blanketBoostOn train) := of_event rfl
theorem pumpRunConfirmTimeout (train : TrainId) : Statement (.pumpRunConfirmTimeout train) := of_event rfl
theorem pumpFoundRunning (train : TrainId) : Statement (.pumpFoundRunning train) := of_event rfl
theorem rasLimited (train : TrainId) : Statement (.rasLimited train) := of_event rfl
theorem stormEvaluation : Statement (.stormEvaluation) := of_event rfl
theorem stormEntry : Statement (.stormEntry) := of_event rfl
theorem stormExit : Statement (.stormExit) := of_event rfl
theorem onDelayEnd (entry : AlarmId) : Statement (.onDelayEnd entry) := of_event rfl
theorem clearingEnd (entry : AlarmId) : Statement (.clearingEnd entry) := of_event rfl
theorem shelfEnd (entry : AlarmId) : Statement (.shelfEnd entry) := of_event rfl
theorem escalation (entry : AlarmId) : Statement (.escalation entry) := of_event rfl
theorem captureSample (channel : ChannelId) : Statement (.captureSample channel) := of_event rfl
theorem captureFrozen (channel : ChannelId) : Statement (.captureFrozen channel) := of_event rfl

end Sys2Proof.Laws.RequestKind
end

