-- ==== Sys2Proof/Laws/Records.lean ====
section
/-! SUPPORT. What the judgment of a hub, the clock and the warm rules leave unchanged, and what a hub's change of state
does. -/

namespace Sys2Proof.Machine

/-- Any record may differ; the queue of commands, the pins' state, the baud rate and the duty list stay. -/
def OnlyRecords (s t : State) : Prop :=
  t = { s with reply := t.reply, rx := t.rx, attn := t.attn, notices := t.notices, frameCount := t.frameCount,
               uptime := t.uptime, outbound := t.outbound, hubs := t.hubs, service := t.service, points := t.points,
               slots := t.slots, lanes := t.lanes, air := t.air, blowers := t.blowers, online := t.online, header := t.header,
               budget := t.budget, trains := t.trains, plant := t.plant, alarm := t.alarm, channels := t.channels }

theorem OnlyRecords.refl (s : State) : OnlyRecords s s := rfl

theorem OnlyRecords.trans {s t u : State} (h : OnlyRecords s t) (h' : OnlyRecords t u) : OnlyRecords s u := by
  unfold OnlyRecords at *; rw [h', h]

theorem OnlyControl.records {s t : State} (h : OnlyControl s t) : OnlyRecords s t := by
  unfold OnlyControl at h; unfold OnlyRecords; rw [h]

theorem OnlyRecords.control {s t u : State} (h : OnlyRecords s t) (h' : OnlyControl t u) : OnlyRecords s u :=
  h.trans h'.records

theorem OnlyRecords.air {s t u : State} (h : OnlyRecords s t) (h' : OnlyAir t u) : OnlyRecords s u :=
  h.control h'.control

theorem OnlyRecords.power {s t u : State} (h : OnlyRecords s t) (h' : OnlyPower t u) : OnlyRecords s u :=
  h.control h'.control

theorem OnlyRecords.alarms {s t u : State} (h : OnlyRecords s t) (h' : OnlyAlarms t u) : OnlyRecords s u :=
  h.control h'.control

theorem OnlyRecords.held {s t : State} (h : OnlyRecords s t) : t.held = s.held := by
  unfold OnlyRecords at h; rw [h]

theorem OnlyRecords.forAll {α : Type} {s t : State} {f : α → State → State} {xs : List α} (h : OnlyRecords s t)
    (step : ∀ x u, OnlyRecords s u → OnlyRecords s (f x u)) : OnlyRecords s (Machine.forAll xs f t) :=
  forAll_keeps f step xs t h

theorem OnlyRecords.with_reply {s t : State} (h : OnlyRecords s t) (x : Option Reply) :
    OnlyRecords s { t with reply := x } := h.trans rfl

theorem OnlyRecords.with_rx {s t : State} (h : OnlyRecords s t) (x : List Byte) : OnlyRecords s { t with rx := x } := h.trans rfl

theorem OnlyRecords.with_attn {s t : State} (h : OnlyRecords s t) (x : Bool) :
    OnlyRecords s { t with attn := x } := h.trans rfl

theorem OnlyRecords.with_notices {s t : State} (h : OnlyRecords s t) (x : List Notice) :
    OnlyRecords s { t with notices := x } := h.trans rfl

theorem OnlyRecords.with_frameCount {s t : State} (h : OnlyRecords s t) (x : Nat) :
    OnlyRecords s { t with frameCount := x } := h.trans rfl

theorem OnlyRecords.with_uptime {s t : State} (h : OnlyRecords s t) (x : Nat) :
    OnlyRecords s { t with uptime := x } := h.trans rfl

theorem OnlyRecords.with_outbound {s t : State} (h : OnlyRecords s t) (x : Option Outbound) :
    OnlyRecords s { t with outbound := x } := h.trans rfl

theorem OnlyRecords.with_hubs {s t : State} (h : OnlyRecords s t) (x : Vector Hub 4) :
    OnlyRecords s { t with hubs := x } := h.trans rfl

theorem OnlyRecords.with_service {s t : State} (h : OnlyRecords s t) (x : Service) :
    OnlyRecords s { t with service := x } := h.trans rfl

theorem OnlyRecords.with_points {s t : State} (h : OnlyRecords s t) (x : Vector Point 96) :
    OnlyRecords s { t with points := x } := h.trans rfl

theorem OnlyRecords.with_slots {s t : State} (h : OnlyRecords s t) (x : Vector Slot 48) :
    OnlyRecords s { t with slots := x } := h.trans rfl

theorem OnlyRecords.with_lanes {s t : State} (h : OnlyRecords s t) (x : Vector Lane 12) :
    OnlyRecords s { t with lanes := x } := h.trans rfl

theorem OnlyRecords.with_air {s t : State} (h : OnlyRecords s t) (x : Air) :
    OnlyRecords s { t with air := x } := h.trans rfl

theorem OnlyRecords.with_blowers {s t : State} (h : OnlyRecords s t) (x : Vector Blower 6) :
    OnlyRecords s { t with blowers := x } := h.trans rfl

theorem OnlyRecords.with_online {s t : State} (h : OnlyRecords s t) (x : List BlowerId) :
    OnlyRecords s { t with online := x } := h.trans rfl

theorem OnlyRecords.with_header {s t : State} (h : OnlyRecords s t) (x : Header) :
    OnlyRecords s { t with header := x } := h.trans rfl

theorem OnlyRecords.with_budget {s t : State} (h : OnlyRecords s t) (x : Budget) :
    OnlyRecords s { t with budget := x } := h.trans rfl

theorem OnlyRecords.with_trains {s t : State} (h : OnlyRecords s t) (x : Vector Train 4) :
    OnlyRecords s { t with trains := x } := h.trans rfl

theorem OnlyRecords.with_plant {s t : State} (h : OnlyRecords s t) (x : Plant) :
    OnlyRecords s { t with plant := x } := h.trans rfl

theorem OnlyRecords.with_alarm {s t : State} (h : OnlyRecords s t) (x : AlarmUnit) :
    OnlyRecords s { t with alarm := x } := h.trans rfl

theorem OnlyRecords.with_channels {s t : State} (h : OnlyRecords s t) (x : Vector Channel 4) :
    OnlyRecords s { t with channels := x } := h.trans rfl

theorem OnlyRecords.airSecond {s t : State} (h : OnlyRecords s t) :
    OnlyRecords s (State.airSecond t) := h.control (OnlyControl.airSecond (.refl t))

theorem OnlyRecords.blowerFrame {s t : State} (h : OnlyRecords s t) (d : HubId) (before : State) (b : BlowerId) :
    OnlyRecords s (State.blowerFrame d before b t) := h.control (OnlyControl.blowerFrame (.refl t) _ _ _)

theorem OnlyRecords.dropValve {s t : State} (h : OnlyRecords s t) (l : LaneId) :
    OnlyRecords s (State.dropValve t l) := h.air (OnlyAir.dropValve (.refl t) _)

theorem OnlyRecords.entrySecond {s t : State} (h : OnlyRecords s t) (e : AlarmId) :
    OnlyRecords s (State.entrySecond e t) := h.alarms (OnlyAlarms.entrySecond (.refl t) _)

theorem OnlyRecords.evaluateStorm {s t : State} (h : OnlyRecords s t) :
    OnlyRecords s (State.evaluateStorm t) := h.control (OnlyControl.evaluateStorm (.refl t))

theorem OnlyRecords.headerSecond {s t : State} (h : OnlyRecords s t) :
    OnlyRecords s (State.headerSecond t) := h.control (OnlyControl.headerSecond (.refl t))

theorem OnlyRecords.laneFeedback {s t : State} (h : OnlyRecords s t) (d : HubId) (l : LaneId) :
    OnlyRecords s (State.laneFeedback d l t) := h.air (OnlyAir.laneFeedback (.refl t) _ _)

theorem OnlyRecords.laneSecond {s t : State} (h : OnlyRecords s t) (l : LaneId) :
    OnlyRecords s (State.laneSecond l t) := h.air (OnlyAir.laneSecond (.refl t) _)

theorem OnlyRecords.notify {s t : State} (h : OnlyRecords s t) (src : Source) (c : Cause) :
    OnlyRecords s (State.notify t src c) := h.alarms (OnlyAlarms.notify (.refl t) _ _)

theorem OnlyRecords.post {s t : State} (h : OnlyRecords s t) (e : AlarmId) (v : Bool) :
    OnlyRecords s (State.post t e v) := h.alarms (OnlyAlarms.post (.refl t) _ _)

theorem OnlyRecords.pumpFrame {s t : State} (h : OnlyRecords s t) (d : HubId) (before : State) (k : TrainId) :
    OnlyRecords s (State.pumpFrame d before k t) := h.power (OnlyPower.pumpFrame (.refl t) _ _ _)

theorem OnlyRecords.pumpSecond {s t : State} (h : OnlyRecords s t) (k : TrainId) :
    OnlyRecords s (State.pumpSecond k t) := h.power (OnlyPower.pumpSecond (.refl t) _)

theorem OnlyRecords.requestAir {s t : State} (h : OnlyRecords s t) (l : LaneId) (amount : Nat) :
    OnlyRecords s (State.requestAir t l amount) := h.air (OnlyAir.requestAir (.refl t) _ _)

theorem OnlyRecords.setChannel {s t : State} (h : OnlyRecords s t) (c : ChannelId) (r : Channel) :
    OnlyRecords s (State.setChannel t c r) := h.alarms (OnlyAlarms.setChannel (.refl t) _ _)

theorem OnlyRecords.setLane {s t : State} (h : OnlyRecords s t) (l : LaneId) (r : Lane) :
    OnlyRecords s (State.setLane t l r) := h.air (OnlyAir.setLane (.refl t) _ _)

theorem OnlyRecords.shedExpires {s t : State} (h : OnlyRecords s t) :
    OnlyRecords s (State.shedExpires t) := h.control (OnlyControl.shedExpires (.refl t))

theorem OnlyRecords.trainSecond {s t : State} (h : OnlyRecords s t) (k : TrainId) :
    OnlyRecords s (State.trainSecond k t) := h.power (OnlyPower.trainSecond (.refl t) _)

theorem OnlyRecords.testDeferral {s t : State} (h : OnlyRecords s t) (b : BlowerId) :
    OnlyRecords s (State.testDeferral t b) := h.power (OnlyPower.testDeferral (.refl t) _)

theorem OnlyRecords.writeBlower {s t : State} (h : OnlyRecords s t) (b : BlowerId) :
    OnlyRecords s (State.writeBlower t b) := h.power (OnlyPower.writeBlower (.refl t) _)

theorem OnlyRecords.writePump {s t : State} (h : OnlyRecords s t) (k : TrainId) :
    OnlyRecords s (State.writePump t k) := h.power (OnlyPower.writePump (.refl t) _)

theorem OnlyRecords.writeValve {s t : State} (h : OnlyRecords s t) (l : LaneId) (value : Nat) :
    OnlyRecords s (State.writeValve t l value) := h.air (OnlyAir.writeValve (.refl t) _ _)

theorem OnlyRecords.freezeChannel {s t : State} (h : OnlyRecords s t) (k : ChannelId) :
    OnlyRecords s (State.freezeChannel t k) := by
  unfold State.freezeChannel
  try dsimp only
  repeat' (first
    | (with_reducible exact h) | (with_reducible apply OnlyRecords.setChannel)
    | (with_reducible apply OnlyRecords.notify))

theorem OnlyRecords.takeSample {s t : State} (h : OnlyRecords s t) (k : ChannelId) :
    OnlyRecords s (State.takeSample t k) := by
  unfold State.takeSample
  try dsimp only
  repeat' (first
    | (with_reducible exact h) | (with_reducible apply OnlyRecords.freezeChannel)
    | (with_reducible apply OnlyRecords.setChannel) | split)

theorem OnlyRecords.captureFrame {s t : State} (h : OnlyRecords s t) (d : HubId) (k : ChannelId) :
    OnlyRecords s (State.captureFrame d k t) := by
  unfold State.captureFrame
  try dsimp only
  repeat' (first
    | (with_reducible exact h) | (with_reducible apply OnlyRecords.takeSample)
    | (with_reducible apply OnlyRecords.setChannel) | split)

theorem OnlyRecords.hostTrigger {s t : State} (h : OnlyRecords s t) (k : ChannelId) :
    OnlyRecords s (State.hostTrigger k t) := by
  unfold State.hostTrigger
  try dsimp only
  repeat' (first
    | (with_reducible exact h) | (with_reducible apply OnlyRecords.setChannel) | split)

theorem OnlyRecords.setHub {s t : State} (h : OnlyRecords s t) (d : HubId) (r : Hub) :
    OnlyRecords s (State.setHub t d r) := h.trans rfl

theorem OnlyRecords.setPoint {s t : State} (h : OnlyRecords s t) (p : PointId) (r : Point) :
    OnlyRecords s (State.setPoint t p r) := h.trans rfl

theorem OnlyRecords.rejudge {s t : State} (h : OnlyRecords s t) (p : PointId) :
    OnlyRecords s (State.rejudge p t) := by
  unfold State.rejudge
  try dsimp only
  repeat' (first
    | (with_reducible exact h) | (with_reducible apply OnlyRecords.setPoint))

theorem OnlyRecords.updatePoints {s t : State} (h : OnlyRecords s t) (d : HubId) (frame : Option ReturnFrame) :
    OnlyRecords s (State.updatePoints t d frame) := by
  unfold State.updatePoints
  try dsimp only
  repeat' (first
    | (with_reducible exact h) | (with_reducible apply OnlyRecords.setPoint)
    | (with_reducible apply OnlyRecords.forAll) | (intro _ _ h))

theorem OnlyRecords.reportHub {s t : State} (h : OnlyRecords s t) (d : HubId) :
    OnlyRecords s (State.reportHub t d) := by
  unfold State.reportHub
  try dsimp only
  repeat' (first
    | (with_reducible exact h) | (with_reducible apply OnlyRecords.post)
    | (with_reducible apply OnlyRecords.notify))

theorem OnlyRecords.latchRequest {s t : State} (h : OnlyRecords s t) (d : HubId) (f : ReturnFrame) :
    OnlyRecords s (State.latchRequest t d f) := by
  unfold State.latchRequest
  try dsimp only
  repeat' (first
    | (with_reducible exact h) | (with_reducible apply OnlyRecords.setHub)
    | (with_reducible apply OnlyRecords.notify) | split)

theorem OnlyRecords.endService {s t : State} (h : OnlyRecords s t) (result : ServiceResult) (value : Nat) :
    OnlyRecords s (State.endService t result value) := by
  unfold State.endService
  try dsimp only
  repeat' (first
    | (with_reducible exact h) | (with_reducible apply OnlyRecords.notify)
    | (with_reducible apply OnlyRecords.with_service))

theorem OnlyRecords.carryService {s t : State} (h : OnlyRecords s t) :
    OnlyRecords s (State.carryService t) := by
  unfold State.carryService
  try dsimp only
  repeat' (first
    | (with_reducible exact h) | (with_reducible apply OnlyRecords.endService) | split
    | (with_reducible apply OnlyRecords.with_service))

theorem OnlyRecords.judgeService {s t : State} (h : OnlyRecords s t) (d : HubId)
    (frame : Option ReturnFrame) (lost : Bool) :
    OnlyRecords s (State.judgeService t d frame lost) := by
  unfold State.judgeService
  try dsimp only
  repeat' (first
    | (with_reducible exact h) | (with_reducible apply OnlyRecords.endService)
    | (with_reducible apply OnlyRecords.carryService) | split)

theorem OnlyRecords.frameUpdates {s t : State} (h : OnlyRecords s t) (d : HubId) (before : State) :
    OnlyRecords s (State.frameUpdates t d before) := by
  unfold State.frameUpdates
  try dsimp only
  repeat' (first
    | (with_reducible exact h) | (with_reducible apply OnlyRecords.laneFeedback)
    | (with_reducible apply OnlyRecords.blowerFrame) | (with_reducible apply OnlyRecords.pumpFrame)
    | (with_reducible apply OnlyRecords.forAll) | (intro _ _ h))

theorem OnlyRecords.judgeHub {s t : State} (h : OnlyRecords s t) (d : HubId) (frame : Option ReturnFrame)
    (wrongId : Bool) : OnlyRecords s (State.judgeHub t d frame wrongId) := by
  unfold State.judgeHub
  split
  · exact h
  · extract_lets was t₁ t₂ changed t₃ t₄
    have h₁ : OnlyRecords s t₁ := (h.setHub _ _).updatePoints _ _
    have h₂ : OnlyRecords s t₂ := h₁.forAll fun _ _ h => h.captureFrame _ _
    have h₃ : OnlyRecords s t₃ := by
      show OnlyRecords s (if changed then t₂.reportHub d else t₂)
      split
      · exact h₂.reportHub _
      · exact h₂
    have h₄ : OnlyRecords s t₄ := by
      show OnlyRecords s (match frame with
        | some f => t₃.latchRequest d f
        | none => t₃)
      split
      · exact h₃.latchRequest _ _
      · exact h₃
    exact (h₄.judgeService _ _ _).frameUpdates _ _

theorem OnlyRecords.judgeFrame {s t : State} (h : OnlyRecords s t) (d : HubId) (f : ReturnFrame) :
    OnlyRecords s (State.judgeFrame t d f) := by
  unfold State.judgeFrame
  try dsimp only
  repeat' (first
    | (with_reducible exact h) | (with_reducible apply OnlyRecords.judgeHub) | split)

theorem OnlyRecords.setMaint {s t : State} (h : OnlyRecords s t) (p : PointId) (time : Nat) :
    OnlyRecords s (State.setMaint t p time) := by
  unfold State.setMaint
  try dsimp only
  repeat' (first
    | (with_reducible exact h) | (with_reducible apply OnlyRecords.setPoint)
    | (with_reducible apply OnlyRecords.rejudge))

theorem OnlyRecords.startService {s t : State} (h : OnlyRecords s t) (d : HubId) (code address value : Nat) :
    OnlyRecords s (State.startService t d code address value) := by
  unfold State.startService
  try dsimp only
  repeat' (first
    | (with_reducible exact h) | (with_reducible apply OnlyRecords.endService) | split
    | (with_reducible apply OnlyRecords.with_service))

theorem OnlyRecords.changeHub {s t : State} (h : OnlyRecords s t) (d : HubId) (r : Hub) :
    OnlyRecords s (State.changeHub t d r) := by
  unfold State.changeHub
  try dsimp only
  repeat' (first
    | (with_reducible exact h) | (with_reducible apply OnlyRecords.setHub)
    | (with_reducible apply OnlyRecords.rejudge) | (with_reducible apply OnlyRecords.reportHub)
    | (with_reducible apply OnlyRecords.forAll) | (intro _ _ h))

theorem OnlyRecords.endMaint {s t : State} (h : OnlyRecords s t) (p : PointId) :
    OnlyRecords s (State.endMaint p t) := by
  unfold State.endMaint
  try dsimp only
  repeat' (first
    | (with_reducible exact h) | (with_reducible apply OnlyRecords.setPoint)
    | (with_reducible apply OnlyRecords.rejudge) | split)

/-- What a second waited changes of a blower's record: the seconds waited in WAIT_POWER (R72). -/
theorem Blower.waitSecond_eq (r : Blower) : r.waitSecond = { r with
    result := if r.state.stepCode = 1 then r.result.map (fun x => { x with waited := heldAdd 65535 x.waited })
      else r.result } := by
  obtain ⟨_, state⟩ := r
  cases state with
  | starting step => cases step <;> rfl
  | stopping step => cases step <;> rfl
  | _ => rfl

@[simp] theorem State.blower_countTimers (s : State) (b : BlowerId) :
    s.countTimers.blower b = (s.blower b).waitSecond := by
  simp [State.blower, State.countTimers]

/-- The test of a wait for power (R72): what it answers for a blower in WAIT_POWER, and for any other. -/
theorem testDeferral_eq (s : State) (b : BlowerId) : s.testDeferral b =
    match (s.blower b).state with
    | .starting .waitPower _ copy =>
      if (s.blower b).result.any (fun x => decide (copy.deferralLimit < x.waited)) = true then
        s.post (startDeferredEntry b) true
      else s
    | _ => s := rfl

theorem OnlyRecords.countTimers {s t : State} (h : OnlyRecords s t) :
    OnlyRecords s (State.countTimers t) := h.trans rfl

theorem OnlyRecords.maintSecond {s t : State} (h : OnlyRecords s t) (p : PointId) :
    OnlyRecords s (State.maintSecond p t) := by
  unfold State.maintSecond
  try dsimp only
  repeat' (first
    | (with_reducible exact h) | (with_reducible apply OnlyRecords.endMaint) | split)

theorem OnlyRecords.refresh {s t : State} (h : OnlyRecords s t) : OnlyRecords s (State.refresh t) := h.trans rfl

theorem OnlyRecords.takeTurns {α : Type} {s t : State} {turn : α → State → State} {xs : List α} (h : OnlyRecords s t)
    (step : ∀ x u, OnlyRecords s u → OnlyRecords s (turn x u)) : OnlyRecords s (Machine.takeTurns xs turn t) :=
  h.forAll fun x u h => (step x u h).refresh

theorem OnlyRecords.takeTimers {s t : State} (h : OnlyRecords s t) : OnlyRecords s t.takeTimers := by
  unfold State.takeTimers
  extract_lets t₁ t₂ t₃ t₄ t₅ t₆
  have h₁ : OnlyRecords s t₁ := h.takeTurns fun _ _ h => h.entrySecond _
  have h₂ : OnlyRecords s t₂ := (h₁.takeTurns fun _ _ h => h.maintSecond _).airSecond
  have h₃ : OnlyRecords s t₃ := by
    show OnlyRecords s (if t₂.budget.shedTimer = some 0 then t₂.shedExpires.refresh else t₂)
    split
    · exact h₂.shedExpires.refresh
    · exact h₂
  have h₄ : OnlyRecords s t₄ := (h₃.takeTurns fun _ _ h => h.testDeferral _).takeTurns fun _ _ h => h.pumpSecond _
  have h₅ : OnlyRecords s t₅ := (h₄.takeTurns fun _ _ h => h.laneSecond _).headerSecond.refresh
  have h₆ : OnlyRecords s t₆ := h₅.takeTurns fun _ _ h => h.trainSecond _
  split
  · exact h₆.evaluateStorm.refresh
  · exact h₆

theorem OnlyRecords.second {s t : State} (h : OnlyRecords s t) : OnlyRecords s t.second := by
  unfold State.second
  split
  · exact OnlyRecords.takeTimers (OnlyRecords.countTimers (h.trans rfl))
  · exact h.with_frameCount _

theorem OnlyRecords.endPeriod {s t : State} (h : OnlyRecords s t) :
    OnlyRecords s (State.endPeriod t) := by
  unfold State.endPeriod
  have passed : OnlyRecords s { t with alarm := t.alarm.frame } := h.with_alarm _
  dsimp only
  split
  · exact (passed.takeTurns fun _ _ h => h.judgeHub _ _ _).with_hubs _
  · exact passed.with_hubs _

theorem OnlyRecords.sendOutbound {s t : State} (h : OnlyRecords s t) :
    OnlyRecords s (State.sendOutbound t) := h.trans rfl

theorem OnlyRecords.countFrame {s t : State} (h : OnlyRecords s t) :
    OnlyRecords s (State.countFrame t) := by
  unfold State.countFrame
  try dsimp only
  repeat' (first
    | (with_reducible exact h) | (with_reducible apply OnlyRecords.second) | split
    | (with_reducible apply OnlyRecords.with_frameCount))

theorem OnlyRecords.boundary {s t : State} (h : OnlyRecords s t) : OnlyRecords s t.boundary := by
  unfold State.boundary
  exact h.endPeriod.sendOutbound.countFrame

theorem OnlyRecords.warmRecords {s t : State} (h : OnlyRecords s t) : OnlyRecords s t.warmRecords := by
  refine h.trans ?_
  unfold State.warmRecords
  rfl

theorem OnlyRecords.warmValve {s t : State} (h : OnlyRecords s t) (l : LaneId) :
    OnlyRecords s (State.warmValve l t) := by
  unfold State.warmValve
  try dsimp only
  repeat' (first
    | (with_reducible exact h) | (with_reducible apply OnlyRecords.writeValve)
    | (with_reducible apply OnlyRecords.dropValve) | split)

theorem OnlyRecords.warmSlots {s t : State} (h : OnlyRecords s t) : OnlyRecords s t.warmSlots := by
  unfold State.warmSlots
  extract_lets t₁ t₂
  have h₁ : OnlyRecords s t₁ := h.forAll fun _ _ h => h.writeBlower _
  have h₂ : OnlyRecords s t₂ := h₁.forAll fun _ _ h => h.writePump _
  exact h₂.forAll fun _ _ h => h.warmValve _

theorem OnlyRecords.warmBlowerPosts {s t : State} (h : OnlyRecords s t) (b : BlowerId) :
    OnlyRecords s (State.warmBlowerPosts b t) := by
  unfold State.warmBlowerPosts
  try dsimp only
  repeat' (first
    | (with_reducible exact h) | (with_reducible apply OnlyRecords.post))

theorem OnlyRecords.warmTrainPosts {s t : State} (h : OnlyRecords s t) (k : TrainId) :
    OnlyRecords s (State.warmTrainPosts k t) := by
  unfold State.warmTrainPosts
  try dsimp only
  repeat' (first
    | (with_reducible exact h) | (with_reducible apply OnlyRecords.post))

theorem OnlyRecords.warmRequest {s t : State} (h : OnlyRecords s t) (l : LaneId) :
    OnlyRecords s (State.warmRequest l t) := by
  unfold State.warmRequest
  try dsimp only
  repeat' (first
    | (with_reducible exact h) | (with_reducible apply OnlyRecords.requestAir) | split)

/-! ### A hub's change of state -/

/-- Judging points afresh changes the point table alone. -/
theorem rejudge_points_only (xs : List PointId) :
    ∀ s : State, forAll xs State.rejudge s = { s with points := (forAll xs State.rejudge s).points } := by
  induction xs with
  | nil => intro s; rfl
  | cons x xs ih => intro s; exact ih (s.rejudge x)

/-- Points judged afresh, each once, and no other. -/
theorem point_rejudged (xs : List PointId) (p : PointId) : xs.Nodup → ∀ s : State,
    (forAll xs State.rejudge s).point p = if p ∈ xs then (s.point p).settle (s.hubPresent p) false else s.point p := by
  induction xs with
  | nil => intro _ s; rfl
  | cons x xs ih =>
    intro fresh s
    obtain ⟨out, fresh⟩ := List.nodup_cons.1 fresh
    have here : ∀ q, (State.rejudge x s).point q =
        if q = x then (s.point q).settle (s.hubPresent q) false else s.point q := fun q => by
      by_cases h : q = x
      · subst h; simp [State.rejudge, State.point, State.setPoint]
      · have : x.val ≠ q.val := fun e => h (Fin.ext e).symm
        simp [State.rejudge, State.point, State.setPoint, h, this]
    show (forAll xs State.rejudge (State.rejudge x s)).point p = _
    rw [ih fresh, here]
    by_cases h : p = x
    · subst h; simp [out]
    · simp [h, State.hubPresent, State.rejudge, State.hub, State.setPoint]

theorem mem_hubPoints (h : HubId) (p : PointId) : p ∈ (hubPoints h).map (·.2) ↔ hubOfPoint p = h := by
  simp only [hubPoints, List.map_map, List.mem_map, List.mem_finRange, true_and, Function.comp, hubOfPoint, Fin.ext_iff]
  constructor
  · rintro ⟨k, hk⟩; omega
  · intro hp; exact ⟨⟨p.val % 24, by omega⟩, by simp; omega⟩

theorem nodup_hubPoints (h : HubId) : ((hubPoints h).map (·.2)).Nodup := by
  rw [hubPoints, List.map_map]
  refine (List.nodup_finRange 24).map fun a b e => ?_
  simp only [Function.comp, Fin.ext_iff] at e ⊢
  omega

/-- A point judged afresh with no sample (R168, R170). -/
theorem Point.settle_unsampled (r : Point) (present : Bool) :
    r.settle present false = { r with
      quality := r.judge present, value := (r.settle present false).value,
      filterState := (r.settle present false).filterState } ∧
    ((r.settle present false).quality = .good → r.quality ≠ .good → r.kind = .analog →
      (r.settle present false).filterState = r.scaled ∧ (r.settle present false).value = valueOf r.scaled) ∧
    ((r.settle present false).quality ≠ .good ∨ r.quality = .good ∨ r.kind = .discrete →
      (r.settle present false).value = r.value ∧ (r.settle present false).filterState = r.filterState) := by
  unfold Point.settle Point.work
  by_cases g : r.judge present = .good
  · by_cases b : r.quality = .good <;> cases k : r.kind <;>
      simp [g, b, Point.withFilter, Point.scaled]
  · simp [g]

/-- The points of a hub that takes a new record, judged afresh. -/
theorem hub_rejudged (s : State) (h : HubId) (r : Hub) : ∃ v : State,
    v = { s with hubs := s.hubs.set h r, points := v.points } ∧ (v.hub h).present = r.present ∧
    (∀ p, v.point p = if hubOfPoint p = h then (s.point p).settle r.present false else s.point p) ∧
    s.changeHub h r = v.reportHub h := by
  have key := rejudge_points_only ((hubPoints h).map (·.2)) (s.setHub h r)
  refine ⟨_, key, ?_, fun p => ?_, rfl⟩
  · rw [key]; simp [State.hub, State.setHub]
  · rw [point_rejudged _ p (nodup_hubPoints h)]
    simp only [mem_hubPoints]
    by_cases hp : hubOfPoint p = h
    · simp [hp, State.hubPresent, State.hub, State.setHub, State.point]
    · simp [hp, State.setHub, State.point]

/-- What a change of a hub's state outside a judgment's own count does (R163): HubChanged, then the posting of HUB_ABSENT. -/
theorem changeHub_takes (s : State) (h : HubId) (r : Hub) :
    ∃ u, HubChanged h r s u ∧ s.changeHub h r = u.post (hubEntry h) (!r.present) := by
  obtain ⟨v, key, present, points, change⟩ := hub_rejudged s h r
  refine ⟨v.notify .link .hubChanged, ⟨?_, fun p hp => ?_, fun p hp => ?_⟩, ?_⟩
  · rw [key]; rfl
  · exact (points p).trans (if_neg hp)
  · have e : (v.notify .link .hubChanged).point p = (s.point p).settle r.present false := (points p).trans (if_pos hp)
    rw [e]
    exact (s.point p).settle_unsampled r.present
  · rw [change, ← present]; rfl

end Sys2Proof.Machine
end

