-- ==== Sys2Proof/Laws/Slots.lean ====
section
/-! SUPPORT. What the slot operations leave in the slots: the slot written, all others, and what the writers of a machine's
slots put in them. -/

namespace Sys2Proof.Machine

/-- The slot of the number is changed by `f`; every other slot stays. -/
theorem slot_updateSlot (s : State) (n : Nat) (f : Slot → Slot) (q : SlotId) :
    (s.updateSlot n f).slot q = if q.val = n then f (s.slot q) else s.slot q := by
  unfold State.updateSlot
  by_cases inside : n < 48
  · have named : asId 48 n = some ⟨n, inside⟩ := by simp [asId, inside]
    simp only [named]
    by_cases same : q.val = n
    · obtain rfl : q = ⟨n, inside⟩ := Fin.ext same
      simp
    · rw [if_neg same]
      exact State.slot_setSlot_other s _ _ _ (fun e => same (by simp [e]))
  · have unnamed : asId 48 n = none := asId_none (Nat.le_of_not_lt inside)
    have other : ¬ q.val = n := fun e => inside (e ▸ q.isLt)
    simp only [unnamed, if_neg other]

theorem slot_writeSlot (s : State) (n value : Nat) (valid : Bool) (q : SlotId) :
    (s.writeSlot n value valid).slot q =
      if q.val = n then { s.slot q with value := value, valid := valid } else s.slot q := slot_updateSlot ..

theorem slot_invalidateSlot (s : State) (n : Nat) (q : SlotId) :
    (s.invalidateSlot n).slot q = if q.val = n then { s.slot q with valid := false } else s.slot q := slot_updateSlot ..

theorem slot_releaseSlot (s : State) (n : Nat) (q : SlotId) :
    (s.releaseSlot n).slot q = if q.val = n then Slot.cold else s.slot q := slot_updateSlot ..

theorem slot_claimSlot (s : State) (n : Nat) (who : Claimant) (q : SlotId) :
    (s.claimSlot n who).slot q = if q.val = n then { s.slot q with claimant := who } else s.slot q := slot_updateSlot ..

/-- A slot written carries the value. -/
theorem writeSlot_drives (s : State) (n value : Nat) : (s.writeSlot n value true).drives n value := fun q same => by
  simp [slot_writeSlot, same]

/-- A write of another slot leaves what a slot carries. -/
theorem drives_writeSlot {s : State} {n value : Nat} (h : s.drives n value) (k v : Nat) (b : Bool) (other : n ≠ k) :
    (s.writeSlot k v b).drives n value := fun q same => by
  rw [slot_writeSlot, if_neg (fun e => other (same ▸ e))]
  exact h q same

/-- A claimed slot has one claimant. -/
theorem claimed_unique {s : State} {n : Nat} {a b : Claimant} (h : s.claimed n a) (k : s.claimed n b) : a = b := by
  obtain ⟨p, hp, rfl⟩ := h
  obtain ⟨q, hq, rfl⟩ := k
  obtain rfl : p = q := Fin.ext (hp.trans hq.symm)
  rfl

/-- A configured blower's three slots are three. -/
theorem State.SlotsClaimed.blower_distinct {s : State} (h : s.SlotsClaimed) {b : BlowerId} {c : BlowerFields}
    (config : (s.blower b).config = some c) :
    c.runSlot ≠ c.speedSlot ∧ c.runSlot ≠ c.blowoffSlot ∧ c.speedSlot ≠ c.blowoffSlot := by
  have own := h.2.1 b c (by simp [config])
  simp only [blowerSlots, List.mem_cons, List.not_mem_nil, or_false, forall_eq_or_imp, forall_eq] at own
  obtain ⟨run, speed, blowoff⟩ := own
  refine ⟨fun e => ?_, fun e => ?_, fun e => ?_⟩
  · exact Claimant.noConfusion (claimed_unique run (e ▸ speed))
  · exact Claimant.noConfusion (claimed_unique run (e ▸ blowoff))
  · exact Claimant.noConfusion (claimed_unique speed (e ▸ blowoff))

/-- A configured pump's two slots are two. -/
theorem State.SlotsClaimed.pump_distinct {s : State} (h : s.SlotsClaimed) {k : TrainId} {c : TrainFields}
    (config : (s.train k).config = some c) : c.runSlot ≠ c.speedSlot := by
  have own := h.2.2 k c (by simp [config])
  simp only [pumpSlots, List.mem_cons, List.not_mem_nil, or_false, forall_eq_or_imp, forall_eq] at own
  obtain ⟨run, speed⟩ := own
  exact fun e => Claimant.noConfusion (claimed_unique run (e ▸ speed))

/-- A blower that writes its slots puts its state's outputs in them. -/
theorem writeBlower_drives {s : State} {b : BlowerId} {c : BlowerFields} {run speed blowoff : Nat}
    (config : (s.blower b).config = some c)
    (outputs : blowerOutputs s.header.commonSpeed c (s.blower b) = some (run, speed, blowoff))
    (distinct : c.runSlot ≠ c.speedSlot ∧ c.runSlot ≠ c.blowoffSlot ∧ c.speedSlot ≠ c.blowoffSlot) :
    (s.writeBlower b).drivesBlower c run speed blowoff := by
  simp only [State.writeBlower, config, outputs]
  exact ⟨drives_writeSlot (drives_writeSlot (writeSlot_drives _ _ _) _ _ _ distinct.1) _ _ _ distinct.2.1,
    drives_writeSlot (writeSlot_drives _ _ _) _ _ _ distinct.2.2, writeSlot_drives _ _ _⟩

/-- A pump that writes its slots puts its state's outputs in them. -/
theorem writePump_drives {s : State} {k : TrainId} {c : TrainFields} {run speed : Nat}
    (config : (s.train k).config = some c) (outputs : pumpOutputs (s.train k) = some (run, speed))
    (distinct : c.runSlot ≠ c.speedSlot) : (s.writePump k).drivesPump c run speed := by
  simp only [State.writePump, config, outputs]
  exact ⟨drives_writeSlot (writeSlot_drives _ _ _) _ _ _ distinct, writeSlot_drives _ _ _⟩

end Sys2Proof.Machine
end

