-- ==== Sys2Proof/Tests/Slice0.lean ====
section
/-! SUPPORT. Tests: the ill-formed commands that the check refuses, and for every statement with hypotheses a state and
operands that meet them, each clause at the ends of its range, with what the command then does. -/

namespace Sys2Proof.Tests
open Sys2Proof Sys2Proof.Machine

set_option Elab.async false

/-! ### Ill-formed commands -/

theorem test_wf_length_zero : (Instr.silence 0).wf = false := by decide +kernel
theorem test_wf_length_past_250 : (Instr.silence 251).wf = false := by decide +kernel
theorem test_wf_length_ends : (Instr.silence 1).wf = true ∧ (Instr.silence 250).wf = true := by decide +kernel
theorem test_wf_byte_field : (Instr.laneRead 3 256 0).wf = false ∧ (Instr.laneRead 3 255 255).wf = true := by decide +kernel
theorem test_wf_two_byte_field : (Instr.airFreeze 3 65536).wf = false ∧ (Instr.airFreeze 3 65535).wf = true := by decide +kernel
theorem test_wf_four_byte_field : (Instr.alarmShelve 6 0 4294967296).wf = false ∧
    (Instr.alarmShelve 6 0 4294967295).wf = true := by decide +kernel
theorem test_wf_absent_is_no_value : (Instr.laneSet 54 0 ⟨some 255, 0, none, 0, none, 0, 1, 1, 0, 1, 0, 0, 0, 1, 0, 10, 0, 0, 0, 0,
    0, 0, 1, 0, 0, 0, 1, 1, 0, 0, 0, 1, 0, 0, 1⟩).wf = false := by decide +kernel
theorem test_wf_signed_field : (Instr.pointSet 13 0 ⟨1, -2147483649, 0, 0, 1⟩).wf = false ∧
    (Instr.pointSet 13 0 ⟨1, -2147483648, 2147483647, 0, 1⟩).wf = true ∧
    (Instr.pointSet 13 0 ⟨1, 0, 2147483648, 0, 1⟩).wf = false := by decide +kernel
theorem test_wf_discarded_is_sound_frame : (Instr.hostFrameDiscarded (hostFrame 0x60 [])).wf = false := by decide +kernel
theorem test_wf_discarded_bad_length : (Instr.hostFrameDiscarded [0x7E#8, 0#8]).wf = true ∧
    (Instr.hostFrameDiscarded [0x7E#8, 251#8]).wf = true := by decide +kernel
theorem test_wf_discarded_bad_crc : (Instr.hostFrameDiscarded [0x7E#8, 1#8, 0x60#8, 0#8, 0#8]).wf = true := by decide +kernel
theorem test_wf_gap_needs_start : (Instr.interbyteTimeout [0x7D#8]).wf = false ∧
    (Instr.interbyteTimeout [0x7E#8, 1#8]).wf = true := by decide +kernel
theorem test_wf_during_reply_kind : (Instr.frameDuringReply 256 []).wf = false := by decide +kernel
theorem test_wf_during_reply_body : (Instr.frameDuringReply 0x60 (List.replicate 250 0#8)).wf = false := by decide +kernel
theorem test_wf_unknown_kind_is_known : (Instr.unknownKindRequest 0x60 []).wf = false ∧
    (Instr.unknownKindRequest 0xE0 []).wf = true := by decide +kernel

/-! ### What a command does, as a test -/

/-- The command goes on, to a state of which `p` holds. -/
def gives (c : Instr) (s : State) (p : State → Bool) : Bool :=
  match exec c s with
  | .next t => p t
  | _ => false

/-- The request is refused for this reason. -/
def refuses (c : Instr) (s : State) (kind : Nat) (r : Reason) : Bool := gives c s (fun t => t.reply == refusedFor kind r)

/-- The request is taken, with this reply, to a state of which `p` holds. -/
def answers (c : Instr) (s : State) (kind : Nat) (body : List WireField) (p : State → Bool := fun _ => true) : Bool :=
  gives c s (fun t => t.reply == taken kind body && p t)

/-- The step goes on, to a state of which `p` holds. -/
def stepGives (s : State) (p : State → Bool) : Bool :=
  match step s with
  | .next t => p t
  | _ => false

/-! ### A plant at work -/

def lane0 : LaneFields :=
  { train := some 0, doPoint := 0, nh4Point := none, airflowPoint := 1, feedbackPoint := some 2, valveSlot := 0,
    minAir := 100, maxAir := 2000, airPriority := 1, period := 10, doSetpoint := 200, stormSetpoint := 150,
    doLow := 50, doHigh := 400, kp := 100, ti := 300, feedForward := 0, cascadeEnable := 0, nh4Setpoint := 0,
    cascadeGain := 0, spLow := 100, spHigh := 300, cascadeDivider := 1, flowGain := 100, correctionLimit := 50,
    releaseDeadband := 100, mismatchTolerance := 20, mismatchCount := 3, stallWindow := 10, retryLimit := 2,
    valveDeadband := 5, feedbackTolerance := 20, wakeOnStorm := 1, returnToPark := 1, fallbackAir := 400 }

def seq0 : SeqFields :=
  { startAllowance := 50, minSpeed := 300, maxSpeed := 900, blowoffTime := 20, runConfirm := 10, rampTime := 60,
    stopConfirm := 30, retryDelay := 40, attemptLimit := 2, deferralLimit := 100, surgeCount := 5, surgeHold := 15 }

def blower0 : BlowerFields :=
  { runPoint := 9, flowPoint := 5, blowoffPoint := none, runSlot := 1, speedSlot := 2, blowoffSlot := 3,
    ratedCapacity := 3000, surgeMinFlow := 800, runKw := 110, seq := seq0 }

def train0 : TrainFields :=
  { influentPoint := 3, rasFlowPoint := 4, blanketPoint := some 8, runPoint := 10, runSlot := 4, speedSlot := 5,
    ratedKw := 30, lanes := [0], normalRatio := 60, stormRatio := 90, rasMin := 100, rasMax := 2000,
    blanketHigh := 400, blanketHysteresis := 50, blanketBoost := 20, pacingPeriod := 30, speedGain := 100,
    minSpeed := 200, maxSpeed := 950, runConfirm := 15, limitedDelay := 60 }

def header0 : HeaderFields :=
  { pressurePoint := 6, initialSetpoint := 600, minSetpoint := 500, maxSetpoint := 700, movHigh := 900, movLow := 600,
    movStep := 10, movPeriod := 120, headerPeriod := 5, speedKp := 100, speedTi := 60, headerLowLimit := 450 }

def storm0 : StormFields :=
  { influentPoint := 3, stormIn := 2000, stormOut := 1500, inCount := 2, outCount := 1, evalPeriod := 60 }

def capture0 : CaptureFields :=
  { point := 0, interval := 10, preCount := 2, hostTrigger := 1, stormTrigger := 0, matchEntry := 0, matchMask := 0 }

def air0 : AirFields :=
  { starvationLimit := 10, stageInDelay := 3600, stageOutDelay := 10, stageOutMargin := 0, loadFreeze := 600,
    minOnline := 1 }

def analog (v : Int) : Point :=
  { kind := .analog, spanLow := 0, spanHigh := 1000, filter := 0, staleLimit := 25, raw := 30000, value := v,
    filterState := ⟨v, 1⟩, quality := .good, age := 0, maint := none }

def discrete (v : Nat) : Point := { analog v with kind := .discrete, raw := v }

/-- Hub 0 with the points of the plant's one lane, blower and train. -/
def fielded : State :=
  let s := State.reset.setHub 0 { Hub.cold with present := true, goodCount := 2 }
  let s := ((s.setPoint 0 (analog 180)).setPoint 1 (analog 500)).setPoint 2 (analog 300)
  let s := ((s.setPoint 3 (analog 900)).setPoint 4 (analog 400)).setPoint 5 (analog 2500)
  let s := ((s.setPoint 6 (analog 550)).setPoint 8 (analog 300)).setPoint 9 (discrete 0)
  s.setPoint 10 (discrete 0)

def laneAs (m : LaneMode) : Lane :=
  { Lane.cold with config := some lane0, curve := [(0, 0), (1000, 2000)], mode := m, demand := 450, timer := some 7,
                   airPriority := 1, correctionLimit := 50 }

def blowerAs (x : BlowerState) : Blower := { Blower.cold with config := some blower0, state := x }

def trainAs (x : PumpState) : Train :=
  { Train.cold with config := some train0, state := x, timer := some 30, minSpeed := 200, limitedDelay := 60,
                    startSpeed := 200 }

/-- The plant: lane 0 in AUTO with a grant, blower 0 OFF, pump 0 OFF, the header and the plant record configured. -/
def plant : State :=
  let s := ((fielded.setLane 0 (laneAs .auto)).setBlower 0 (blowerAs .off)).setTrain 0 (trainAs .off)
  let s := (((s.claimSlot 0 (.laneValve 0)).claimSlot 1 (.blowerRun 0)).claimSlot 2 (.blowerSpeed 0)).claimSlot 3
    (.blowerBlowoff 0)
  let s := (s.claimSlot 4 (.pumpRun 0)).claimSlot 5 (.pumpSpeed 0)
  { s with
    header := { Header.cold with config := some header0, setpoint := 600, timer := some 5, movTimer := some 120 },
    plant := { Plant.cold with config := some storm0, timer := some 60 },
    air := { s.air with grants := s.air.grants.set 0 450 },
    alarm := { s.alarm with laneFlags := s.alarm.laneFlags.set 0 false, blowerFlags := s.alarm.blowerFlags.set 0 false,
                            trainFlags := s.alarm.trainFlags.set 0 false },
    outbound := some s.assemble, uptime := 1000 }

def withLane (r : Lane) : State := plant.setLane 0 r
def withMode (m : LaneMode) : State := withLane (laneAs m)
def withBlower (x : BlowerState) : State := plant.setBlower 0 (blowerAs x)
def withPump (x : PumpState) : State := plant.setTrain 0 (trainAs x)

/-- Blower 0 ONLINE, with its commitment and its capacity. -/
def running : State :=
  let s := plant.setBlower 0 { blowerAs .online with power := .run, result := some ⟨1, .none, 0, .online⟩ }
  { s with online := [0], duty := [0],
           air := { s.air with capacity := [(0, 3000)] },
           budget := { s.budget with commits := [⟨.blower 0, .run, 110, 900⟩] },
           header := { s.header with range := some (300, 900), commonSpeed := 500 } }

/-- Blower 0 in a step of STARTING. -/
def starting (step : StartStep) (attempts : Nat) : State :=
  let s := plant.setBlower 0 { blowerAs (.starting step .command seq0) with
    stepTimer := some 5, power := .start, result := some ⟨attempts, .none, 0, .inProgress⟩ }
  { s with budget := { s.budget with commits := [⟨.blower 0, .start, 165, 900⟩] } }

/-- An alarm entry of priority 2 in this state with this condition. -/
def alarmAs (x : EntryState) (condition : Bool) : Entry :=
  { Entry.cold with priority := 2, state := x, condition := condition }

/-- Entry 2 as given, the lines following. -/
def withEntry (r : Entry) : State := (plant.setEntry 2 r).refresh

/-- Channel 0 configured, in this state, with these samples. -/
def withChannel (x : CaptureState) (ring : List Sample) (left : Nat) : State :=
  plant.setChannel 0 { Channel.cold with configured := true, fields := capture0, state := x, ring := ring,
                                         postRemaining := left }

/-- The cold alarm unit drives its lines as they stand. -/
theorem cold_alarms_follow : AlarmUnit.cold.refresh = AlarmUnit.cold := by decide +kernel

/-- So do the plant's alarms. -/
theorem plant_alarms_follow : plant.alarm.refresh = plant.alarm := by decide +kernel

/-- A state with alarms that follow is ready, ATTN following its notices. -/
theorem ready_of_alarms {s : State} {u : AlarmUnit} (follow : u.refresh = u) (alarm : s.alarm = u)
    (held : s.held = false) (restarting : s.restarting = false) (attn : s.attn = !s.notices.isEmpty) : s.Ready := by
  refine ⟨⟨held, restarting⟩, ?_⟩
  simp only [State.LinesFollow, held, Bool.false_eq_true, if_false]
  exact ⟨attn, alarm ▸ follow⟩

theorem test_plant_ready : plant.Ready ∧ running.Ready ∧ (starting .ramp 1).Ready :=
  ⟨ready_of_alarms plant_alarms_follow rfl rfl rfl rfl, ready_of_alarms plant_alarms_follow rfl rfl rfl rfl, ready_of_alarms plant_alarms_follow rfl rfl rfl rfl⟩

/-! ### The step, the resets, the invariants -/

theorem test_step_runs_front : stepGives { plant with pending := [.statusRead 1, .restart 1] }
    (fun t => t.pending == [.restart 1] && (t.reply.map (·.kind)) == some 0xE1) := by decide +kernel
theorem test_step_idles : State.reset.pending = [] := by decide +kernel
theorem test_cold_reset : gives (.coldReset true false) plant (fun t => t.baud.rate == 115200 && t.alarm == AlarmUnit.cold) := by decide +kernel
theorem test_held_part_is_deaf : let s := { plant with held := true, attn := false }
    s.held = true ∧ (Instr.silence 1 ≠ .resetPinAsserted) ∧ (∀ x y, Instr.silence 1 ≠ .coldReset x y) ∧
      gives (.silence 1) s (fun t => t.reply == s.reply && t.held) := by decide +kernel
theorem test_reset_pin : gives .resetPinAsserted plant (fun t => t.held && !t.attn) := by decide +kernel
theorem test_invariants_over_a_step : let s := { plant with pending := [.noticeRead 1] }
    s.Ready ∧ s.OneRecordPerSource ∧ s.HistoryFits ∧ stepGives s (fun t => t.notices.isEmpty && !t.attn) :=
  ⟨ready_of_alarms plant_alarms_follow rfl rfl rfl rfl, by decide +kernel⟩
theorem test_orders_over_a_step : let s := { running with pending := [.blowerStop 3 0] }
    s.AirInOrder ∧ s.PowerInOrder ∧ stepGives s (fun t => t.online.isEmpty && t.air.capacity.isEmpty) := by decide +kernel
/-- The plant with what its lane, blower and pump put in their slots. -/
def driven : State := ((plant.writeSlot 0 0 true).writeBlower 0).writePump 0
theorem driven_in_order : driven.OutputsFollow := by
  have lanes : ∀ l, ∀ c ∈ (driven.lane l).config, l = 0 ∧ c = lane0 := by decide +kernel
  have blowers : ∀ b, ∀ c ∈ (driven.blower b).config, b = 0 ∧ c = blower0 := by decide +kernel
  have trains : ∀ k, ∀ c ∈ (driven.train k).config, k = 0 ∧ c = train0 := by decide +kernel
  have mode : (driven.lane 0).mode = .auto := by decide +kernel
  have off : (driven.blower 0).state = .off := by decide +kernel
  have stopped : (driven.train 0).state = .off := by decide +kernel
  refine ⟨by decide +kernel, fun l c h => ?_, fun b c h => ?_, fun k c h => ?_, by decide +kernel⟩
  · obtain ⟨rfl, rfl⟩ := lanes l c h
    simp only [State.laneDriven, mode]
    exact .inl (by decide +kernel)
  · obtain ⟨rfl, rfl⟩ := blowers b c h
    simp only [State.blowerDriven, off]
    decide +kernel
  · obtain ⟨rfl, rfl⟩ := trains k c h
    simp only [State.pumpDriven, stopped]
    decide +kernel
theorem test_outputs_over_a_step : plant.SlotsClaimed ∧ running.SlotsClaimed ∧ (starting .ramp 1).SlotsClaimed ∧
    stepGives { driven with pending := [.blowerStart 3 0] } (fun t =>
      (t.slot 1).value == 0 && (t.slot 3).value == 1000 && (t.slot 3).valid) := by decide +kernel
theorem test_reset_pin_loses_the_reply : let s := { plant with restarting := true, reply := taken 0x63 [], rx := [0x7E#8] }
    gives .resetPinAsserted s (fun t => t.reply == none && !t.restarting && t.rx.isEmpty) ∧
    gives .resetPinAsserted { s with restarting := false } (fun t => t.reply == taken 0x63 []) := by decide +kernel

/-! ### Requests in general -/

theorem test_wrong_length : plant.listening = true ∧ refuses (.silence 2) plant 0x45 .badLength ∧
    refuses (.laneSet 62 0 lane0) plant 0x10 .badLength ∧ (2 ≠ 1 + bodySize []) := by decide +kernel
theorem test_list_lengths : refuses (.laneCurve 7 0 [(0, 0)]) plant 0x11 .badLength ∧
    refuses (.laneCurve 39 0 (List.replicate 9 (0, 0))) plant 0x11 .badLength ∧
    refuses (.laneCurve 11 0 [(0, 0)]) plant 0x11 .range ∧
    refuses (.laneCurve 35 0 (List.replicate 9 (0, 0))) plant 0x11 .range ∧
    refuses (.laneCurve 35 0 (List.replicate 7 (0, 0))) plant 0x11 .badLength ∧
    refuses (.trainSet 34 0 { train0 with lanes := [] }) plant 0x38 .range ∧
    refuses (.trainSet 37 0 { train0 with lanes := [0, 1, 2, 3, 4] }) plant 0x38 .range ∧
    refuses (.dutySet 9 [0, 1, 2, 3, 4, 5, 0]) plant 0x2A .badLength ∧
    refuses (.trainSet 33 0 { train0 with lanes := [] }) plant 0x38 .badLength ∧
    refuses (.trainSet 38 0 { train0 with lanes := [0, 1, 2, 3, 4] }) plant 0x38 .badLength := by decide +kernel
theorem test_bad_length_byte : badLength 0 = true ∧ badLength 251 = true ∧ badLength 1 = false ∧ badLength 250 = false ∧
    gives (.silence 0) plant (fun t => t.reply == none && t.rx == []) ∧
    gives (.laneRead 251 0x7E 3) plant (fun t => t.reply == none && t.rx.take 2 == [0x7E#8, 3#8]) := by decide +kernel
theorem test_receiver_hunts : (plant.receiveBytes [0x7E#8, 0#8, 1#8, 0x7E#8, 5#8]).rx = [0x7E#8, 5#8] ∧
    gives (.hostFrameDiscarded [0x7E#8, 251#8, 0x7E#8]) plant (fun t => t.rx == [0x7E#8] && t.reply == none) ∧
    gives (.hostFrameDiscarded [0#8]) { plant with rx := [0x7E#8] } (fun t => t.rx == []) ∧
    gives (.interbyteTimeout [1#8]) { plant with rx := [0x7E#8] } (fun t => t.rx == []) ∧
    gives (.silence 1) { plant with rx := [0x7E#8] } (fun t => t.reply == none && t.rx.length == 6) := by decide +kernel
theorem test_receiver_takes_later_frames : let silence := hostFrame 0x45 []
    gives (.hostFrameDiscarded ([0x7E#8, 251#8] ++ silence)) plant
      (fun t => t.reply == taken 0x45 [.u8 0, .u8 0] && t.rx == []) ∧
    gives (.hostFrameDiscarded ([0x7E#8, 0#8] ++ hostFrame 0x12 [0#8, 2#8] ++ silence ++ [0x7E#8])) plant
      (fun t => (t.lane 0).mode == .parked && t.reply == taken 0x45 [.u8 0, .u8 0] && t.rx == [0x7E#8]) ∧
    gives (.silence 1) { plant with rx := [0x7E#8, 4#8, 0x60#8] } (fun t => t.reply == none && t.rx == []) ∧
    (Instr.laneMode 3 0 2).wf = true ∧ (frameRequest 0x12 (bodyBytes [.u8 0, .u8 2])).after plant =
      plant.receiveBytes (frameBytes 0x12 3 [.u8 0, .u8 2]) := by decide +kernel
theorem test_unknown_commands : refuses (.unknownKindRequest 0x29 [0#8, 5#8]) plant 0x29 .range ∧
    refuses (.unknownKindRequest 0x39 [3#8, 255#8]) plant 0x39 .range ∧
    (Instr.unknownKindRequest 0x29 [0#8, 5#8]).wf = true ∧ (Instr.unknownKindRequest 0x29 [0#8, 4#8]).wf = false ∧
    gives (.unknownKindRequest 0x29 [0#8, 4#8]) plant (fun t => t == plant) := by decide +kernel
theorem test_no_request : plant.held = false ∧ ¬ 0x81 ∈ requestKinds ∧
    refuses (.unknownKindRequest 0x81 []) plant 0x81 .unknownKind ∧
    discardable [0x7E#8, 1#8, 0x60#8, 0#8, 0#8] = true ∧
    gives (.hostFrameDiscarded [0x7E#8, 1#8, 0x60#8, 0#8, 0#8]) plant (fun t => t.reply == none) ∧
    gives (.interbyteTimeout [0x7E#8]) plant (fun t => t.reply == none) ∧ gives (.frameDuringReply 0x60 []) plant (fun t => t.reply == none) := by decide +kernel
theorem test_lane_number_past_end : refuses (.laneMode 3 12 4) plant 0x12 .range ∧
    refuses (.laneManualAir 4 12 0) plant 0x13 .range ∧ refuses (.laneGate 3 12 0) plant 0x15 .range ∧
    refuses (.laneRelease 2 12) plant 0x16 .range ∧ refuses (.laneRead 3 12 2) plant 0x17 .range ∧
    refuses (.laneFaultRead 3 12 0) plant 0x18 .range := by decide +kernel
theorem test_blower_number_past_end : refuses (.blowerStart 3 6) plant 0x29 .range ∧
    refuses (.blowerStop 3 6) plant 0x29 .range ∧ refuses (.blowerReset 3 6) plant 0x29 .range ∧
    refuses (.blowerLockout 3 6) plant 0x29 .range ∧ refuses (.blowerUnlock 3 6) plant 0x29 .range ∧
    refuses (.blowerRead 3 6 2) plant 0x2C .range := by decide +kernel
theorem test_number_past_three : refuses (.pumpStart 3 4) plant 0x39 .range ∧ refuses (.hubRead 2 4) plant 0x04 .range ∧
    refuses (.captureArm 2 4) plant 0x51 .range ∧ refuses (.captureTrigger 2 254) plant 0x52 .range ∧
    refuses (.captureRead 4 4 0 0) plant 0x53 .range ∧ refuses (.captureRelease 2 4) plant 0x54 .range ∧
    refuses (.trainRead 3 4 2) plant 0x3C .range := by decide +kernel
theorem test_point_and_entry_past_end : refuses (.pointRead 3 96 1) plant 0x02 .range ∧
    refuses (.pointMaint 4 96 0) plant 0x03 .range ∧ refuses (.alarmSet 7 104 1 0 0) plant 0x40 .range ∧
    refuses (.alarmAck 2 104) plant 0x42 .range ∧ refuses (.alarmShelve 6 104 1) plant 0x43 .range ∧
    refuses (.alarmUnshelve 2 104) plant 0x44 .range := by decide +kernel
theorem test_settings_number_past_end : refuses (.laneSet 54 12 lane0) plant 0x10 .range ∧
    refuses (.laneCurve 11 12 [(0, 0), (1, 1)]) plant 0x11 .range ∧
    refuses (.laneFaultSet 6 12 ⟨0, 0, 0, 0⟩) plant 0x14 .range ∧ refuses (.blowerSet 35 6 blower0) plant 0x28 .range ∧
    refuses (.dutySet 3 [6]) plant 0x2A .range ∧ refuses (.trainSet 34 4 train0) plant 0x38 .range ∧
    refuses (.captureSet 10 4 capture0) plant 0x50 .range ∧
    refuses (.pointSet 13 96 ⟨1, 0, 500, 0, 25⟩) plant 0x01 .range := by decide +kernel

/-! ### Reads -/

theorem test_lane_reads : plant.Ready ∧ (plant.lane 0).config = some lane0 ∧ (plant.lane 0).curve ≠ [] ∧
    answers (.laneRead 3 0 2) plant 0x17 (laneDynamic plant 0) ∧
    answers (.laneRead 3 0 0) plant 0x17 lane0.wire ∧
    answers (.laneRead 3 0 1) plant 0x17 [.u8 2, .u16 0, .u16 0, .u16 1000, .u16 2000] ∧
    refuses (.laneRead 3 0 3) plant 0x17 .range ∧ (plant.lane 1).config = none ∧
    refuses (.laneRead 3 1 0) plant 0x17 .unconfigured :=
  ⟨ready_of_alarms plant_alarms_follow rfl rfl rfl rfl, by decide +kernel⟩
theorem test_lane_fault_read : let s := withLane { laneAs .auto with sticky := 0b000110#6, openLoopSticky := true }
    s.Ready ∧ answers (.laneFaultRead 3 0 1) s 0x18 (laneFaultBody (s.lane 0))
      (fun t => (t.lane 0).sticky == 0 && !(t.lane 0).openLoopSticky) ∧
    refuses (.laneFaultRead 3 0 2) s 0x18 .range :=
  ⟨ready_of_alarms plant_alarms_follow rfl rfl rfl rfl, by decide +kernel⟩
theorem test_point_read : answers (.pointRead 3 80 16) plant 0x02
      (.u8 16 :: ((plant.points.toList.drop 80).take 16).flatMap Point.wire) ∧
    refuses (.pointRead 3 81 16) plant 0x02 .range ∧ refuses (.pointRead 3 0 17) plant 0x02 .range ∧
    refuses (.pointRead 3 95 0) plant 0x02 .range ∧
    answers (.pointRead 3 95 1) plant 0x02 (.u8 1 :: (plant.point 95).wire) := by decide +kernel
theorem test_record_reads : answers (.hubRead 2 3) plant 0x04 (hubBody plant 3) ∧
    answers (.airRead 1) plant 0x22 (airReadBody plant) ∧
    answers (.budgetRead 1) running 0x31 (budgetBody running) ∧
    answers (.headerRead 1) running 0x2D (headerBody running) ∧
    answers (.blowerRead 3 0 2) running 0x2C (blowerDynamic running 0) ∧
    answers (.blowerRead 3 0 0) running 0x2C blower0.wire ∧
    refuses (.blowerRead 3 0 1) running 0x2C .range ∧ refuses (.blowerRead 3 5 0) plant 0x2C .unconfigured := by decide +kernel
theorem test_train_reads : (plant.train 0).config = some train0 ∧ (plant.train 3).config = none ∧
    answers (.trainRead 3 0 2) plant 0x3C (trainDynamic plant 0) ∧
    answers (.trainRead 3 0 3) plant 0x3C (plantBody plant) ∧
    answers (.trainRead 3 0 0) plant 0x3C train0.wire ∧ refuses (.trainRead 3 3 0) plant 0x3C .unconfigured ∧
    refuses (.trainRead 3 0 1) plant 0x3C .range ∧ refuses (.trainRead 3 0 4) plant 0x3C .range := by decide +kernel
theorem test_alarm_list_read : answers (.alarmListRead 3 0 0) plant 0x46
      (wireList ((pageOf 0 plant.alarm.activeList).map (activeRow plant.alarm)) ++ plant.alarm.summary) ∧
    (pageOf 6 allEntries).length = 8 ∧ refuses (.alarmListRead 3 0 7) plant 0x46 .range ∧
    refuses (.alarmListRead 3 2 0) plant 0x46 .range := by decide +kernel
theorem test_capture_read : let s := withChannel .frozen [⟨180, .good⟩] 0
    s.Ready ∧ (s.channel 0).state = .frozen ∧
    answers (.captureRead 4 0 255 0) s 0x53 (captureStatus (s.channel 0)) ∧
    answers (.captureRead 4 0 0 32) s 0x53 (captureSamples (s.channel 0) 0 32) ∧
    refuses (.captureRead 4 1 0 1) s 0x53 .state ∧ refuses (.captureRead 4 0 0 33) s 0x53 .range :=
  ⟨ready_of_alarms plant_alarms_follow rfl rfl rfl rfl, by decide +kernel⟩
theorem test_status_read : gives (.statusRead 1) plant (fun t => (t.reply.map (·.kind)) == some 0xE1) := by decide +kernel
theorem test_identify : gives (.identify 1) plant (fun t => (t.reply.map (·.kind)) == some 0xE0) := by decide +kernel
theorem test_reads_without_what_they_read : (plant.lane 1).curve = [] ∧
    refuses (.laneRead 3 0 1) (withLane { laneAs .auto with curve := [] }) 0x17 .unconfigured ∧
    refuses (.captureRead 4 0 256 0) (withChannel .frozen [⟨180, .good⟩] 0) 0x53 .range := by decide +kernel

/-! ### Notices, hub requests, the service transaction -/

theorem test_notice_read : let s := { plant with notices := plant.notices ++ [⟨.link, 1#8, 990⟩] }
    s.Ready ∧ s.OneRecordPerSource ∧ s.notices = ⟨.host, 1#8, 0⟩ :: [⟨.link, 1#8, 990⟩] ∧
    answers (.noticeRead 1) s 0x62 [.u8 27, .u8 1, .u32 0, .u8 1] (fun t => t.attn && t.notices == [⟨.link, 1#8, 990⟩]) :=
  ⟨ready_of_alarms plant_alarms_follow rfl rfl rfl rfl, by decide +kernel⟩
theorem test_notice_read_empty : let s := { plant with notices := [], attn := false }
    s.Ready ∧ answers (.noticeRead 1) s 0x62 [.u8 0xFF, .u8 0, .u32 0, .u8 0] :=
  ⟨ready_of_alarms plant_alarms_follow rfl rfl rfl rfl, by decide +kernel⟩
theorem test_hub_request_take : let s := plant.setHub 0 { plant.hub 0 with latch := some (.localSelect, 3) }
    s.Ready ∧ (s.hub 0).latch = some (.localSelect, 3) ∧
    answers (.hubRequestTake 2 0) s 0x05 [.u8 1, .u8 3] (fun t => (t.hub 0).latch == none) ∧
    answers (.hubRequestTake 2 1) s 0x05 [.u8 0, .u8 255] ∧ refuses (.hubRequestTake 2 4) s 0x05 .range :=
  ⟨ready_of_alarms plant_alarms_follow rfl rfl rfl rfl, by decide +kernel⟩
theorem test_hub_service : plant.Ready ∧ plant.service.state = .idle ∧ (plant.hub 0).present = true ∧
    (plant.hub 1).present = false ∧
    answers (.hubService 7 0 1 40 9) plant 0x06 [.u8 1] (fun t => t.service == ⟨.sent, 0, 1, 40, 9, 0, false⟩) ∧
    answers (.hubService 7 1 255 40 9) plant 0x06 [.u8 2]
      (fun t => t.service == ⟨.done .absent 65535, 1, 255, 40, 9, 0, false⟩ && t.attn) ∧
    refuses (.hubService 7 0 0 40 9) plant 0x06 .range ∧ refuses (.hubService 7 4 1 40 9) plant 0x06 .range :=
  ⟨ready_of_alarms plant_alarms_follow rfl rfl rfl rfl, by decide +kernel⟩
/-- The transaction in this state, to hub 0. -/
def serviced (x : ServiceState) : State := { plant with service := ⟨x, 0, 1, 40, 9, 4, true⟩ }
theorem test_hub_service_busy : (serviced .sent).service.state ≠ .idle ∧
    refuses (.hubService 7 0 1 40 9) (serviced .sent) 0x06 .busy := by decide +kernel
theorem test_service_result : (serviced (.done .ok 77)).Ready ∧
    answers (.serviceResult 1) (serviced (.done .ok 77)) 0x07 [.u8 0, .u8 1, .u16 40, .u16 9, .u8 0, .u16 77]
      (fun t => t.service == ⟨.idle, 0, 0, 0, 0, 0, false⟩) ∧
    refuses (.serviceResult 1) (serviced .sent) 0x07 .state ∧ refuses (.serviceResult 1) plant 0x07 .state :=
  ⟨ready_of_alarms plant_alarms_follow rfl rfl rfl rfl, by decide +kernel⟩

/-! ### Points and hubs -/

theorem test_quality_cases : ((analog 1).judge true = .good) ∧ ({ analog 1 with raw := 61500 }.judge true = .good) ∧
    ({ analog 1 with raw := 61501 }.judge true = .overrange) ∧ ({ analog 1 with raw := 11400 }.judge true = .good) ∧
    ({ analog 1 with raw := 11399 }.judge true = .underrange) ∧ ({ analog 1 with age := 26 }.judge true = .stale) ∧
    ({ analog 1 with age := 25 }.judge true = .good) ∧ ({ analog 1 with maint := some 1 }.judge true = .maint) ∧
    ({ analog 1 with maint := some 1 }.judge false = .absent) ∧ (Point.cold.judge false = .unbound) ∧
    ((discrete 0).judge true = .good) := by decide +kernel
theorem test_filter_denominators : 0 < (analog 1).filterState.den ∧ 0 < (analog 1).scaled.den ∧
    (analog 1).scaled = ⟨375, 1⟩ := by decide +kernel
theorem test_rounding : roundDiv 5 2 = 3 ∧ roundDiv (-5) 2 = -3 ∧ roundDiv 7 5 = 1 ∧ roundDiv (-8) 5 = -2 ∧ roundDiv 0 1 = 0 ∧
    valueOf ⟨4294967293, 2⟩ = 2147483647 ∧ valueOf ⟨-4294967296, 2⟩ = -2147483648 := by decide +kernel
theorem test_point_set : plant.Ready ∧ boundAgainst plant 20 .analog = false ∧
    answers (.pointSet 13 20 ⟨1, -500, 500, 250, 250⟩) plant 0x01
      { Point.cold with kind := .analog, spanLow := -500, spanHigh := 500, filter := 250, staleLimit := 250,
                        quality := .stale }.wire ∧
    refuses (.pointSet 13 20 ⟨1, 500, 500, 0, 25⟩) plant 0x01 .range ∧
    refuses (.pointSet 13 20 ⟨3, 0, 500, 0, 25⟩) plant 0x01 .range ∧
    refuses (.pointSet 13 20 ⟨1, 0, 500, 0, 0⟩) plant 0x01 .range ∧ boundAgainst plant 0 .discrete = true ∧
    refuses (.pointSet 13 0 ⟨2, 0, 500, 0, 25⟩) plant 0x01 .conflict :=
  ⟨ready_of_alarms plant_alarms_follow rfl rfl rfl rfl, by decide +kernel⟩
theorem test_point_maint : answers (.pointMaint 4 0 7200) plant 0x03 [.u8 3, .u16 7200]
      (fun t => (t.point 0).maint == some 7200 && (t.point 0).value == 180) ∧
    answers (.pointMaint 4 0 0) plant 0x03 [.u8 0, .u16 0xFFFF] ∧ refuses (.pointMaint 4 0 7201) plant 0x03 .range ∧
    (plant.point 95).kind = .unused ∧ refuses (.pointMaint 4 95 1) plant 0x03 .unconfigured := by decide +kernel

/-- A return frame that says the samples of inputs 0 and 1 are valid, the frame check as it should be. -/
def return0 : ReturnFrame :=
  let f : ReturnFrame := { hubId := 0, mask := 3, samples := Vector.replicate 24 36000#16, requestCode := 2,
                           objectIndex := 7, echo := 0, status := 0, value := 0, crc := 0 }
  { f with crc := crc8 f.covered }

theorem test_good_return : plant.held = false ∧ (plant.hub 0).judged = false ∧ return0.checkPasses = true ∧
    return0.hubId.toNat = (0 : HubId).val ∧ (plant.hub 0).latch = none ∧
    plant.outbound.any (fun o => !o.busy[(0 : HubId)]) = true ∧
    gives (.returnFrameJudged 0 return0) plant (fun t => (t.hub 0).latch == some (.probeService, 7) &&
      (t.hub 0).goodCount == 3 && (t.point 0).value == 500 && (t.point 2).age == 1) := by decide +kernel
theorem test_bad_return : (plant.hub 1).judged = false ∧ return0.hubId.toNat ≠ (1 : HubId).val ∧
    ({ return0 with status := 9 }).checkPasses = false ∧
    gives (.returnFrameJudged 1 return0) plant (fun t => (t.hub 1).wiring && (t.hub 1).missCount == 1) ∧
    gives (.returnMiss 0) plant (fun t => (t.hub 0).goodCount == 0 && (t.hub 0).present && (t.point 0).age == 1) := by
  decide +kernel
theorem test_hub_events : plant.Ready ∧ (plant.hub 0).present = true ∧ (plant.hub 1).present = false ∧
    gives (.hubAbsentEntered 0) plant (fun t => !(t.hub 0).present && (t.hub 0).missCount == 3 &&
      (t.entry 96).condition && (t.point 0).quality == .absent && (t.point 11).quality == .unbound) ∧
    gives (.hubPresentEntered 1) plant (fun t => (t.hub 1).present && (t.hub 1).goodCount == 2 &&
      !(t.entry 97).condition) :=
  ⟨ready_of_alarms plant_alarms_follow rfl rfl rfl rfl, by decide +kernel⟩
/-- Hub 1 ABSENT with its wiring flag SET and point 24 ANALOG on it. -/
def miswired : State := (plant.setHub 1 { Hub.cold with missCount := 9, wiring := true }).setPoint 24
  { analog 180 with quality := .absent }
theorem test_hub_change_frame : miswired.Ready ∧ (miswired.hub 1).present = false ∧ hubOfPoint 24 = 1 ∧
    gives (.hubPresentEntered 1) miswired (fun t => t.hub 1 == { Hub.cold with present := true, goodCount := 2 } &&
      (t.point 24).value == 375 && t.hub 0 == miswired.hub 0 && t.point 0 == miswired.point 0 && t.air == miswired.air &&
      t.lanes == miswired.lanes && t.channels == miswired.channels &&
      t.notices == [⟨.host, 1#8, 0⟩, ⟨.link, 1#8, 1000⟩]) ∧
    (serviced .sent).service.target = 0 ∧ gives (.hubAbsentEntered 0) (serviced .sent) (fun t =>
      t.service == ⟨.done .absent 65535, 0, 1, 40, 9, 4, false⟩ && t.notices == [⟨.host, 1#8, 0⟩, ⟨.link, 5#8, 1000⟩] &&
      (t.hub 0).wiring == (plant.hub 0).wiring && (t.point 0).value == 180 && t.lanes == plant.lanes) :=
  ⟨ready_of_alarms plant_alarms_follow rfl rfl rfl rfl, by decide +kernel⟩
theorem test_point_events : let s := plant.setPoint 0 { analog 180 with maint := some 1 }
    (s.point 0).maint.isSome ∧ gives (.maintWindowEnd 0) s (fun t => (t.point 0).maint == none) ∧
    gives (.pointStale 1) s (fun t => (t.point 1).quality == .stale) ∧
    gives (.maintWindowEnd 9) (plant.setPoint 9 { discrete 0 with raw := 1, quality := .maint, maint := some 1 })
      (fun t => (t.point 9).quality == .good && (t.point 9).value == 0) := by decide +kernel
theorem test_service_no_answer : (serviced .sent).service.state = .sent ∧ gives .serviceNoAnswer (serviced .sent)
    (fun t => t.service.state == .done .noAnswer 65535 && t.service.carried == 10) := by decide +kernel
/-- Hub 0's judgment over lane 0's channel, the transaction sent and in the frame. -/
def sampling (x : CaptureState) (count left : Nat) : State :=
  let s := (withChannel x [⟨1, .good⟩] left)
  (s.setChannel 0 { s.channel 0 with intervalCount := count }).setHub 0 { s.hub 0 with missCount := 2 }
theorem test_judgment_samples : onHub 0 capture0.point = true ∧ onHub 1 capture0.point = false ∧
    gives (.returnFrameJudged 0 return0) (sampling .primed 8 0) (fun t => (t.channel 0).intervalCount == 9 &&
      (t.channel 0).ring.length == 1) ∧
    gives (.returnFrameJudged 0 return0) (sampling .primed 9 0) (fun t => (t.channel 0).intervalCount == 0 &&
      (t.channel 0).ring == [⟨1, .good⟩, ⟨500, .good⟩]) ∧
    gives (.returnFrameJudged 0 return0) (sampling .triggered 9 1) (fun t => (t.channel 0).state == .frozen) ∧
    gives (.returnFrameJudged 0 return0) (plant.setHub 0 { plant.hub 0 with judged := true })
      (fun t => (t.point 0).value == 180) := by decide +kernel
/-- A return frame that answers the transaction, or another one. -/
def answering (echo status : Nat) : ReturnFrame :=
  let f := { return0 with echo := BitVec.ofNat 8 echo, status := BitVec.ofNat 8 status, value := 77 }
  { f with crc := crc8 f.covered }
theorem test_judgment_serves :
    gives (.returnFrameJudged 0 (answering 1 0)) (serviced .sent) (fun t => t.service.state == .done .ok 77) ∧
    gives (.returnFrameJudged 0 (answering 1 5)) (serviced .sent) (fun t => t.service.state == .done .refusedByHub 77) ∧
    gives (.returnFrameJudged 0 (answering 2 0)) (serviced .sent) (fun t => t.service.carried == 5) ∧
    gives (.returnMiss 0) { serviced .sent with service := ⟨.sent, 0, 1, 40, 9, 9, true⟩ }
      (fun t => t.service.state == .done .noAnswer 65535) ∧
    gives (.returnMiss 0) ((serviced .sent).setHub 0 { plant.hub 0 with missCount := 2 })
      (fun t => t.service.state == .done .absent 65535 && !(t.hub 0).present) ∧
    gives (.returnFrameJudged 0 (answering 1 0)) { serviced .sent with service := ⟨.sent, 0, 1, 40, 9, 4, false⟩ }
      (fun t => t.service.state == .sent && t.service.carried == 4) := by decide +kernel

/-! ### The clock -/

theorem test_frame_boundary : plant.frameCount + 1 < 50 ∧ plant.uptime < uptimeMax ∧ (State.reset.outbound = none) ∧
    (plant.slot 0).valid = false ∧
    gives .framePeriodBoundary { plant with service := ⟨.sent, 0, 9, 8, 7, 0, false⟩ } (fun t =>
      t.outbound.map (·.service) == some (some (0, 9, 8, 7))) ∧
    gives .framePeriodBoundary plant (fun t => t.frameCount == 1 && t.outbound.map (·.service) == some none &&
      !(t.hub 0).judged && t.outbound.isSome) := by
  decide +kernel
theorem test_second_at_the_boundary : let s := { plant with frameCount := 49, uptime := uptimeMax - 1 }
    50 ≤ s.frameCount + 1 ∧ s.uptime < uptimeMax ∧ ({ plant with frameCount := 48 }).frameCount + 1 < 50 := by
  decide +kernel
theorem test_maintenance_windows :
    let s := (plant.setPoint 0 { analog 1 with maint := some 1 }).setPoint 1 { analog 1 with maint := some 7200 };
    (s.held = false ∧ s.uptime < uptimeMax) ∧ (s.point 0).maint = some 1 ∧ (s.point 1).maint = some (7198 + 2) ∧
    (s.point 2).maint = none := by decide +kernel

/-- Timers of several blocks this many seconds before their ends, and two waits that many below their limits. -/
def ticking (n : Nat) : State :=
  let s := (withEntry { alarmAs .onDelay true with onTimer := some n }).setLane 0 { laneAs .auto with timer := some n }
  let s := (s.setBlower 0 { blowerAs (.starting .waitPower .command seq0) with
    power := .waiting, result := some ⟨1, .none, 101 - n, .inProgress⟩ }).setTrain 0 { trainAs .running with
      timer := some 30, increaseTarget := some 600, increaseWait := 61 - n }
  { s with plant := { s.plant with timer := some n },
           budget := { s.budget with shedTimer := some n, waits := [⟨.blower 0, 0, 160, 900⟩, ⟨.pump 0, 2, 9, 900⟩] },
           air := { s.air with freeze := .seconds n, shortfall := some n, surplus := some n } }
theorem test_second_counts_down : let t := (ticking 3).countTimers
    (ticking 3).held = false ∧ (t.entry 2).onTimer = some 2 ∧ (t.lane 0).timer = some 2 ∧ (t.train 0).timer = some 29 ∧
    t.header.timer = some 4 ∧ t.header.movTimer = some 119 ∧ t.plant.timer = some 2 ∧ t.budget.shedTimer = some 2 ∧
    (t.blower 0).result.map (·.waited) = some 99 ∧
    (ticking 3).airSecond.air.freeze = .seconds 2 ∧ (ticking 3).airSecond.air.shortfall = some 2 ∧
    (ticking 3).airSecond.air.surplus = some 2 := by decide +kernel
theorem test_second_takes_turns : ((ticking 0).lane 0).timer = some 0 ∧
    ((State.laneSecond 0 (ticking 0)).lane 0).timer = some 10 ∧
    ((State.entrySecond 2 (ticking 0)).entry 2).state = .activeUnack ∧ (ticking 1).countFreeze.air.freeze = .none ∧
    (((ticking 0).testDeferral 0).entry (startDeferredEntry 0)).condition = true ∧
    (((ticking 1).testDeferral 0).entry (startDeferredEntry 0)).condition = false ∧
    ((State.pumpSecond 0 (ticking 1)).entry (rasLimitedEntry 0)).condition = true ∧
    ((State.pumpSecond 0 (ticking 2)).train 0).increaseWait = 60 := by decide +kernel

theorem test_start_in_a_second_has_not_waited :
    let s := { plant with duty := [0], air := { plant.air with capacity := [(1, 100)], shortfall := some 1 },
                          budget := { plant.budget with ceiling := some 0 } }
    ((s.countTimers.countShortfall).blower 0).state = .starting .waitPower .staging seq0 ∧
    ((s.countTimers.countShortfall).blower 0).result = some ⟨1, .none, 0, .inProgress⟩ ∧
    ((s.countTimers.countShortfall.countTimers).blower 0).result = some ⟨1, .none, 1, .inProgress⟩ := by decide +kernel
theorem test_lines_follow_each_turn : let s := withEntry (alarmAs .activeUnack true)
    let quiet := { s with alarm := { s.alarm with silenced := some 2 } }.refresh
    let turn (x : AlarmId × EntryState) (s : State) : State := s.setEntry x.1 (alarmAs x.2 true)
    let t := takeTurns [(2, .normal), (3, .activeUnack)] turn quiet
    quiet.alarm.horn = false ∧ t.alarm.silenced = none ∧ t.alarm.horn = true ∧
    (forAll [(2, .normal), (3, .activeUnack)] turn quiet).refresh.alarm.horn = false := by decide +kernel
theorem test_misses_at_the_boundary : plant.held = false ∧ plant.outbound.isSome = true ∧
    (plant.endPeriod.hub 0).missCount = 1 ∧ (plant.endPeriod.hub 0).judged = false ∧
    State.reset.outbound = none ∧ (State.reset.endPeriod.hub 0).missCount = 0 := by decide +kernel

/-! ### Lanes -/

theorem test_lane_set : let s := State.reset
    s.Ready ∧ lengthFor 54 (.u8 (0 : LaneId).val :: lane0.wire) = true ∧ lane0.inRange = true ∧
    (s.lane 0).config.all lane0.sameStructure = true ∧ (∀ p ∈ LaneFields.points lane0, (s.pointAt p).kind ≠ .discrete) ∧
    s.slotFree lane0.valveSlot (.laneValve 0) = true ∧ s.modeFits 0 ∧
    answers (.laneSet 54 0 lane0) s 0x10 [.u8 1] (fun t => (t.lane 0).mode == .outOfService &&
      (t.slot 0).claimant == .laneValve 0 && (t.lane 0).config == some lane0) :=
  ⟨ready_of_alarms cold_alarms_follow rfl rfl rfl rfl, by decide +kernel⟩
theorem test_lane_set_moves_its_slot : let s := (withMode .parked).writeSlot 0 300 true
    (s.lane 0).config = some lane0 ∧ (s.lane 0).mode.takesStructure = true ∧ s.SlotsClaimed ∧
    answers (.laneSet 54 0 { lane0 with valveSlot := 47 }) s 0x10 [.u8 2] (fun t =>
      t.slot 47 == ⟨.laneValve 0, 0, true⟩ && t.slot 0 == ⟨.none, 0, false⟩) := by decide +kernel
theorem test_correction_limit_in_force : let f := { lane0 with correctionLimit := 40 }
    plant.modeFits 0 ∧ plant.SlotsClaimed ∧
    gives (.laneSet 54 0 lane0) State.reset (fun t => (t.lane 0).correctionLimit == 50) ∧
    gives (.laneSet 54 0 f) plant (fun t => (t.lane 0).correctionLimit == 50) ∧
    gives (.lanePeriod 0) (withLane { laneAs .auto with config := some f }) (fun t => (t.lane 0).correctionLimit == 40) := by
  decide +kernel
theorem test_air_priority_in_force : let f := { lane0 with airPriority := 3 }
    let s := { plant with air := { plant.air with queue := [⟨0, 40, 900, true⟩], freeze := .indefinite } }
    s.air.entryOf 0 = some ⟨0, 40, 900, true⟩ ∧ gives (.laneSet 54 0 f) s (fun t => (t.lane 0).airPriority == 3 &&
      t.air.queue == [⟨0, 40, 1000, false⟩] && t.air.grants == s.air.grants) ∧
    gives (.laneSet 54 0 f) plant (fun t => (t.lane 0).airPriority == 1 && t.air == plant.air) ∧
    gives (.lanePeriod 0) (withLane { laneAs .auto with config := some f }) (fun t => (t.lane 0).airPriority == 3) := by
  decide +kernel
theorem test_amount_posted_again : let f := { lane0 with airPriority := 3 }
    let s (capacity : Nat) := { running with air := { running.air with
      capacity := [(0, capacity)], queue := [⟨0, 40, 900, true⟩] } }
    (s 450).air.available = 0 ∧ (s 470).air.available = 20 ∧
    gives (.laneSet 54 0 f) (s 450) (fun t => t.grant 0 == 450 && t.air.queue == [⟨0, 40, 1000, false⟩]) ∧
    gives (.laneSet 54 0 f) (s 470) (fun t => t.grant 0 == 470 && t.air.queue == [⟨0, 20, 1000, false⟩]) ∧
    gives (.laneSet 54 0 f) (s 490) (fun t => t.grant 0 == 490 && t.air.queue == []) := by decide +kernel
theorem test_lane_set_refused : ({ lane0 with doLow := 400 }).inRange = false ∧
    refuses (.laneSet 54 0 { lane0 with doLow := 400 }) plant 0x10 .range ∧
    ({ lane0 with maxAir := 1999 }).sameStructure lane0 = false ∧ (plant.lane 0).mode.takesStructure = false ∧
    refuses (.laneSet 54 0 { lane0 with maxAir := 1999 }) plant 0x10 .state ∧
    refuses (.laneSet 54 1 { lane0 with airflowPoint := 9, valveSlot := 9 }) plant 0x10 .conflict ∧
    refuses (.laneSet 54 1 lane0) plant 0x10 .conflict := by decide +kernel
theorem test_lane_curve : curveInRange [(0, 0), (1000, 65535)] = true ∧
    lengthFor 11 (.u8 (0 : LaneId).val :: curveWire [(0, 0), (1000, 65535)]) = true ∧
    answers (.laneCurve 11 0 [(0, 0), (1000, 65535)]) (withMode .outOfService) 0x11
      [.u8 2, .u16 0, .u16 0, .u16 1000, .u16 65535] ∧
    answers (.laneCurve 35 0 ((List.range 8).map (fun k => (k, k)))) (withMode .parked) 0x11
      (curveWire ((List.range 8).map (fun k => (k, k)))) ∧
    refuses (.laneCurve 11 0 [(0, 0), (0, 1)]) (withMode .parked) 0x11 .range ∧
    refuses (.laneCurve 11 0 [(0, 0), (1, 1)]) plant 0x11 .state ∧
    refuses (.laneCurve 11 1 [(0, 0), (1, 1)]) plant 0x11 .unconfigured := by decide +kernel
/-- Lane 4's curve and commands in the manual's worked example (section 1.4), and the curve's ends and joints. -/
theorem test_valve_of_a_curve : let curve := [(200, 600), (400, 1500), (600, 2600), (800, 3400), (1000, 3900)]
    curveInRange curve = true ∧ valveCommandFor curve 2400 13 = 577 ∧ valveCommandFor curve 2468 15 = 591 ∧
    valveCommandFor curve 2400 15 = 579 ∧ inverseCurve 0 curve = (200, 1) ∧ inverseCurve 600 curve = (200, 1) ∧
    inverseCurve 1500 curve = (400, 1) ∧ inverseCurve 3900 curve = (1000, 1) ∧ inverseCurve 20000 curve = (1000, 1) ∧
    valveCommandFor curve 600 (-200) = 0 ∧ valveCommandFor curve 600 (-201) = 0 ∧ valveCommandFor curve 3900 0 = 1000 ∧
    valveCommandFor curve 3900 1 = 1000 ∧ valveCommandFor [(0, 0), (1, 2)] 1 0 = 1 := by decide +kernel
theorem test_lane_manual_air : answers (.laneManualAir 4 0 100) (withMode .manual) 0x13 [.u16 100] ∧
    answers (.laneManualAir 4 0 2000) (withMode .manual) 0x13 [.u16 2000] ∧
    refuses (.laneManualAir 4 0 99) (withMode .manual) 0x13 .range ∧
    refuses (.laneManualAir 4 0 2001) (withMode .manual) 0x13 .range ∧
    refuses (.laneManualAir 4 0 100) plant 0x13 .state ∧
    refuses (.laneManualAir 4 1 100) plant 0x13 .unconfigured := by decide +kernel
theorem test_lane_fault_set : (plant.lane 0).cause = none ∧
    answers (.laneFaultSet 6 0 ⟨47, 3, 1, 1⟩) plant 0x14 [.u8 47, .u8 3, .u8 1, .u8 1] ∧
    refuses (.laneFaultSet 6 0 ⟨16, 0, 0, 0⟩) plant 0x14 .range ∧
    refuses (.laneFaultSet 6 1 ⟨0, 0, 0, 0⟩) plant 0x14 .unconfigured ∧
    refuses (.laneFaultSet 6 0 ⟨0, 0, 0, 0⟩) (withLane { laneAs .auto with cause := some .range }) 0x14 .state := by
  decide +kernel
theorem test_lane_mode : answers (.laneMode 3 0 1) plant 0x12 [.u8 1] (fun t => t.grant 0 == 0) ∧
    answers (.laneMode 3 0 2) plant 0x12 [.u8 2] (fun t => (t.lane 0).mode == .parked) ∧
    answers (.laneMode 3 0 4) (running.setLane 0 (laneAs .parked)) 0x12 [.u8 3] ∧
    answers (.laneMode 3 0 4) ((running.setGrant 0 0).setLane 0 (laneAs .parked)) 0x12 [.u8 4] ∧
    answers (.laneMode 3 0 5) plant 0x12 [.u8 5] (fun t => (t.lane 0).manualAir == 450) ∧
    answers (.laneMode 3 0 4) (withMode .manual) 0x12 [.u8 4] (fun t => (t.lane 0).bumpless) ∧
    answers (.laneMode 3 0 5) (withMode (.adopting .auto)) 0x12 [.u8 3]
      (fun t => (t.lane 0).mode == .adopting .manual) := by decide +kernel
theorem test_valve_slot_by_mode :
    gives (.laneMode 3 0 2) ((plant.writeSlot 0 300 true)) (fun t => t.slot 0 == ⟨.laneValve 0, 0, true⟩) ∧
    gives (.laneMode 3 0 4) (((running.setGrant 0 0).setLane 0 (laneAs .parked)).writeSlot 0 0 true) (fun t =>
      (t.lane 0).valveCommand == 100 && t.slot 0 == ⟨.laneValve 0, 100, true⟩) ∧
    gives (.laneMode 3 0 4) ((((plant.setGrant 0 0).setLane 0 (laneAs .parked))).writeSlot 0 0 true)
      (fun t => (t.lane 0).mode == .adopting .auto && !(t.slot 0).valid) ∧
    gives (.lanePeriod 0) plant (fun t => t.slot 0 == ⟨.laneValve 0, (t.lane 0).valveCommand, true⟩) := by decide +kernel
/-- Lane 0 PARKED with what entering ADOPTING drops, no grant, the online capacity as given. -/
def resting (capacity : Nat) : State :=
  let u : Supervision := { (laneAs .parked).sup with moving := true, preGrant := some 5 }
  let s := running.setLane 0 { laneAs .parked with
    load := ⟨some 1, some 2, some 3⟩, mismatchRun := 2, stalled := true, sup := u }
  { s with air := { s.air with grants := s.air.grants.set 0 0, capacity := [(0, capacity)] } }
theorem test_adopting_entered : (resting 0).Ready ∧ (resting 0).air.available = 0 ∧ (resting 0).air.entryOf 0 = none ∧
    gives (.laneMode 3 0 4) (resting 0) (fun t => (t.lane 0).mode == .adopting .auto && (t.lane 0).load == ⟨none, none, none⟩ &&
      (t.lane 0).mismatchRun == 0 && !(t.lane 0).stalled && !(t.lane 0).sup.moving && (t.lane 0).sup.preGrant == none &&
      (t.lane 0).timer == none && t.air.queue == [⟨0, 100, 1000, false⟩] && t.air.grants == (resting 0).air.grants) ∧
    gives (.laneMode 3 0 4) (resting 99) (fun t => (t.lane 0).mode == .adopting .auto && t.grant 0 == 99 &&
      t.air.queue == [⟨0, 1, 1000, false⟩]) ∧
    gives (.laneMode 3 0 4) (resting 100) (fun t => (t.lane 0).mode == .auto && t.grant 0 == 100 && t.air.queue == []) :=
  ⟨ready_of_alarms plant_alarms_follow rfl rfl rfl rfl, by decide +kernel⟩
theorem test_lane_mode_refused : refuses (.laneMode 3 0 0) plant 0x12 .range ∧ refuses (.laneMode 3 0 3) plant 0x12 .range ∧
    refuses (.laneMode 3 0 6) plant 0x12 .range ∧ refuses (.laneMode 3 1 1) plant 0x12 .unconfigured ∧
    refuses (.laneMode 3 0 4) (withLane { laneAs .parked with curve := [] }) 0x12 .unconfigured ∧
    refuses (.laneMode 3 0 4) (withMode (.hold .auto)) 0x12 .state ∧
    refuses (.laneMode 3 0 5) (withMode (.hold .auto)) 0x12 .state := by decide +kernel
theorem test_lane_gate : let s := withLane { laneAs .auto with cause := some .range }
    (s.lane 0).mode.runs = true ∧ (s.lane 0).faultConfig.continues = false ∧ (s.lane 0).gateOpen = false ∧
    gives (.laneGate 3 0 1) s (fun t => (t.lane 0).gateOpen && (t.lane 0).mode == .hold .auto &&
      (t.entry 2).condition && t.grant 0 == 450) ∧
    gives (.laneGate 3 0 0) (withLane { laneAs .auto with gateOpen := true }) (fun t => !(t.lane 0).gateOpen) ∧
    refuses (.laneGate 3 0 2) plant 0x15 .range ∧ refuses (.laneGate 3 1 1) plant 0x15 .unconfigured := by decide +kernel
theorem test_lane_gate_continues : let s := withLane { laneAs .auto with cause := some .range, faultConfig :=
      { FaultConfig.cold with continues := true } }
    (s.lane 0).cause ≠ some .flowUnusable ∧
    gives (.laneGate 3 0 1) s (fun t => (t.lane 0).mode == .auto && (t.entry 2).condition) := by decide +kernel
theorem test_lane_release : let s := withLane { laneAs (.hold .manual) with cause := some .range }
    s.Ready ∧ (s.lane 0).config = some lane0 ∧
    answers (.laneRelease 2 0) s 0x16 [.u8 5] (fun t => (t.lane 0).mode == .manual && (t.lane 0).bumpless &&
      (t.lane 0).timer == some 10) ∧
    answers (.laneRelease 2 0) (withLane { laneAs .auto with cause := some .range }) 0x16 [.u8 4] ∧
    refuses (.laneRelease 2 0) plant 0x16 .state ∧ refuses (.laneRelease 2 1) plant 0x16 .unconfigured :=
  ⟨ready_of_alarms plant_alarms_follow rfl rfl rfl rfl, by decide +kernel⟩
theorem test_lane_period : let s := withLane { laneAs .auto with faultConfig := { FaultConfig.cold with enabled := 0 } }
    s.goodValue lane0.airflowPoint = some 500 ∧ s.goodValue lane0.doPoint = some 180 ∧
    (s.lane 0).mismatchRun + 1 < lane0.mismatchCount ∧ lane0.inRange = true ∧
    gives (.lanePeriod 0) s (fun t => (t.lane 0).timer == some 10 && (t.lane 0).setpoint == 200 &&
      (t.lane 0).previousError == 20 && (t.lane 0).periodNumber == 1) := by decide +kernel
theorem test_lane_period_manual : let s := { withLane { laneAs .manual with manualAir := 1200 } with
      plant := { plant.plant with storm := true } }
    (s.lane 0).mode = .manual ∧ s.plant.storm = true ∧ gives (.lanePeriod 0) s
      (fun t => (t.lane 0).demand == 1200 && (t.lane 0).setpoint == 150) := by decide +kernel
theorem test_flow_mismatch : (plant.lane 0).mode.runs = true ∧
    (plant.lane 0).faultConfig.enabled &&& FaultKind.flowMismatch.bit ≠ 0 ∧
    gives (.flowMismatchDetected 0) plant (fun t => (t.lane 0).cause == some .flowMismatch) ∧
    gives (.flowMismatchDetected 0) (withLane { laneAs .auto with cause := some .range })
      (fun t => (t.lane 0).cause == some .range && (t.lane 0).sticky == FaultKind.flowMismatch.bit) := by decide +kernel
theorem test_hold_puts_the_held_command : let s (x : RetryPhase) := (withLane { laneAs .auto with
      gateOpen := true, valveCommand := 255, sup := ⟨true, 250, 9, 1, none, 255, x, 20, 2⟩ }).writeSlot 0 250 (x == .none)
    gives (.flowMismatchDetected 0) (s .none) (fun t => t.slot 0 == ⟨.laneValve 0, 255, true⟩) ∧
    gives (.flowMismatchDetected 0) (s .sent) (fun t => t.slot 0 == ⟨.laneValve 0, 250, false⟩) ∧
    gives (.laneGate 3 0 1) ((s .none).setLane 0 { (s .none).lane 0 with gateOpen := false, cause := some .range })
      (fun t => t.slot 0 == ⟨.laneValve 0, 255, true⟩) := by decide +kernel
/-- Lane 0 with a valve move under supervision. -/
def moving (retries : Nat) (retry : RetryPhase) : State :=
  withLane { laneAs .auto with sup := ⟨true, 250, 1, retries, some 400, 250, retry, 20, 2⟩ }
theorem test_parked_entered : let s := moving 1 .none
    (s.lane 0).mode.takesStructure = false ∧ gives (.laneMode 3 0 2) s (fun t => !(t.lane 0).sup.moving &&
      (t.lane 0).sup.preGrant == none && !t.air.holdMarks[0] && t.alarm.laneFlags[0] &&
      (laneEntries 0).all (fun e => !(t.entry e).condition)) := by decide +kernel
theorem test_valve_window : (moving 1 .none).Ready ∧ 1 < lane0.retryLimit ∧
    gives (.valveWindowEnd 0) (moving 1 .none) (fun t => (t.lane 0).sup.retry == .dropped && !(t.slot 0).valid &&
      (t.lane 0).sup.retries == 2) ∧
    lane0.retryLimit ≤ 2 ∧ gives (.valveWindowEnd 0) (moving 2 .none) (fun t => (t.lane 0).stalled &&
      t.grant 0 == 400 && t.air.lastTimeout == some 0 && (t.entry 3).condition) ∧
    gives (.valveRetryRevalidate 0) (moving 2 .sent) (fun t => (t.slot 0).valid && (t.lane 0).sup.window == 10) :=
  ⟨ready_of_alarms plant_alarms_follow rfl rfl rfl rfl, by decide +kernel⟩
theorem test_retries_past_a_lowered_limit : let s := withLane { (moving 3 .none).lane 0 with stalled := false }
    (s.lane 0).sup.retryLimit ≤ (s.lane 0).sup.retries ∧ gives (.valveWindowEnd 0) s (fun t => (t.lane 0).stalled) ∧
    ({ lane0 with stallWindow := 0 }).stallWindow = 0 ∧
    gives (.valveRetryRevalidate 0) (withLane { (moving 2 .sent).lane 0 with config := some { lane0 with stallWindow := 0 } })
      (fun t => (t.slot 0).valid && (t.slot 0).value == 250 && !(t.lane 0).sup.moving) := by decide +kernel
theorem test_mismatch_event_keeps_its_run : let r := { laneAs .auto with mismatchRun := 2, gateOpen := true }
    gives (.flowMismatchDetected 0) (withLane r) (fun t => (t.lane 0).mode == .hold .auto &&
      (t.lane 0).mismatchRun == 2 && (t.lane 0).timer == none) ∧
    gives (.flowMismatchDetected 0) (withLane { r with gateOpen := false }) (fun t => (t.lane 0).mode == .auto &&
      (t.lane 0).mismatchRun == 0) := by decide +kernel
theorem test_lane_period_cascade : let c := { lane0 with cascadeEnable := 1, nh4Point := some 3, cascadeGain := 10 }
    let s := withLane { laneAs .auto with config := some c, faultConfig := { FaultConfig.cold with enabled := 0 } }
    c.inRange = true ∧ c.nh4Point.bind s.goodValue = some 900 ∧
    gives (.lanePeriod 0) s (fun t => (t.lane 0).cascaded == 290 && (t.lane 0).setpoint == 290) ∧
    gives (.lanePeriod 0) (s.setLane 0 { s.lane 0 with mode := .manual, cascaded := 222 })
      (fun t => (t.lane 0).setpoint == 222) := by decide +kernel
theorem test_lane_period_loop : let r := { laneAs .auto with demand := 450, previousError := 10, load := ⟨some 1, some 2, some 1200⟩ }
    let s := withLane { r with config := some { lane0 with feedForward := 100 }, faultConfig :=
      { FaultConfig.cold with enabled := 0 } }
    (feedTrain s { lane0 with feedForward := 100 }).isSome = true ∧
    gives (.lanePeriod 0) s (fun t => (t.lane 0).demand == 561 && (t.lane 0).load == ⟨some 900, some 400, some 1300⟩) ∧
    gives (.lanePeriod 0) (s.setLane 0 { s.lane 0 with bumpless := true }) (fun t => (t.lane 0).demand == 551) := by
  decide +kernel
theorem test_lane_period_moves_the_valve : let s := withLane { laneAs .manual with manualAir := 300 }
    300 + lane0.releaseDeadband < s.grant 0 ∧ gives (.lanePeriod 0) s (fun t => t.grant 0 == 300 &&
      (t.lane 0).sup.moving && (t.lane 0).sup.window == 10 && (t.lane 0).sup.preGrant == some 0 &&
      (t.lane 0).sup.retryLimit == 2) ∧
    gives (.lanePeriod 0) { withLane { laneAs .manual with manualAir := 600 } with air := { plant.air with
        grants := plant.air.grants.set 0 450, freeze := .indefinite } }
      (fun t => t.grant 0 == 450 && (t.air.entryOf 0).map (·.amount) == some 150) := by decide +kernel
theorem test_increase_in_a_period : let s (capacity : Nat) := { running.setLane 0 { laneAs .manual with manualAir := 600 } with
      air := { running.air with capacity := [(0, capacity)] } }
    (s 500).air.queue = [] ∧ (s 500).air.short = false ∧
    gives (.lanePeriod 0) (s 600) (fun t => t.grant 0 == 600 && t.air.queue == []) ∧
    gives (.lanePeriod 0) (s 500) (fun t => t.grant 0 == 500 && t.air.queue == [⟨0, 100, 1000, false⟩]) := by
  decide +kernel
/-- Lane 0 in AUTO, its demand within its range, the gate open; hub 0's DO point as given. -/
def faulted (point : Point) (config : FaultConfig) : State :=
  (withLane { laneAs .auto with gateOpen := true, setpoint := 210, faultConfig := config }).setPoint 0 point
theorem test_input_fault_latched : let s := faulted { analog 180 with quality := .stale } FaultConfig.cold
    inputFault (s.pointAt lane0.doPoint).quality = some .absentInput ∧ (s.lane 0).faultConfig.enabled &&& FaultKind.absentInput.bit ≠ 0 ∧
    gives (.lanePeriod 0) s (fun t => (t.lane 0).mode == .hold .auto && (t.lane 0).cause == some .absentInput &&
      (t.lane 0).record == some ⟨.absentInput, 0, 180, .stale, 210, 450⟩ && t.air.holdMarks[(0 : LaneId)] &&
      (t.entry 2).condition) := by decide +kernel
theorem test_latched_finds_nothing : let s := faulted (analog 180) FaultConfig.cold
    s.autoDemand 0 lane0 = some 471 ∧ (s.lane 0).faultConfig.continues = false ∧
    gives (.lanePeriod 0) s (fun t => (t.lane 0).mode == .auto && (t.lane 0).sticky == 0 && (t.lane 0).cause == none &&
      (t.lane 0).demand == 471) := by decide +kernel
theorem test_input_fault_goes_on : let f := { FaultConfig.cold with continues := true }
    let s (x : Substitution) (q : Quality) := faulted { analog 180 with quality := q } { f with substitution := x }
    gives (.lanePeriod 0) (s .lean .overrange) (fun t => (t.lane 0).demand == 100 && (t.lane 0).cause == some .range &&
      (t.lane 0).bumpless && (t.entry 2).condition) ∧
    gives (.lanePeriod 0) (s .lean .underrange) (fun t => (t.lane 0).demand == 450) ∧
    gives (.lanePeriod 0) (s .rich .underrange) (fun t => (t.lane 0).demand == 2000) ∧
    gives (.lanePeriod 0) (s .fixed .absent) (fun t => (t.lane 0).demand == 400) ∧
    gives (.lanePeriod 0) (faulted { analog 180 with quality := .stale } { FaultConfig.cold with enabled := 0 })
      (fun t => (t.lane 0).cause == none && (t.lane 0).sticky == FaultKind.absentInput.bit && (t.lane 0).mode == .auto) := by
  decide +kernel
theorem test_cascade_fault_goes_on : let c := { lane0 with cascadeEnable := 1, nh4Point := some 40 }
    let s := withLane { laneAs .auto with gateOpen := true, config := some c, faultConfig :=
      { FaultConfig.cold with continues := true, substitution := .fixed } }
    s.setpointInUse 0 c = none ∧ s.demandOn 0 c c.doSetpoint = some 471 ∧ gives (.lanePeriod 0) s (fun t =>
      (t.lane 0).setpoint == 200 && (t.lane 0).demand == 471 && (t.lane 0).cause == some .cascadeInput) := by
  decide +kernel
theorem test_saturation_on_a_cascade : let c := { lane0 with cascadeEnable := 1, nh4Point := some 3, cascadeGain := 10 }
    let s := (withLane { laneAs .auto with gateOpen := true, config := some c }).setPoint 0 (analog (-9000))
    s.setpointInUse 0 c = some 290 ∧ s.autoDemand 0 c ≠ none ∧ gives (.lanePeriod 0) s (fun t =>
      (t.lane 0).mode == .hold .auto && ((t.lane 0).record.map (·.setpoint)) == some 290) := by decide +kernel
theorem test_cascade_fault : let c := { lane0 with cascadeEnable := 1, nh4Point := some 40, kp := 0 }
    let s (k : Bool) := withLane { laneAs .auto with gateOpen := true, config := some c, faultConfig :=
      { FaultConfig.cold with continues := k, substitution := .rich } }
    c.inRange = true ∧ c.nh4Point.bind (s true).goodValue = none ∧
    gives (.lanePeriod 0) (s false) (fun t => (t.lane 0).mode == .hold .auto && (t.lane 0).cause == some .cascadeInput) ∧
    gives (.lanePeriod 0) (s true) (fun t => (t.lane 0).setpoint == 300 && (t.lane 0).cascaded == ((s true).lane 0).cascaded) := by
  decide +kernel
theorem test_saturation : let s (k : Bool) := faulted (analog (-9000)) { FaultConfig.cold with continues := k }
    (s true).goodValue 0 = some (-9000) ∧ loopDemand lane0 ((s true).lane 0) 9200 0 = 9957 ∧
    gives (.lanePeriod 0) (s false) (fun t => (t.lane 0).mode == .hold .auto && (t.lane 0).cause == some .saturation) ∧
    gives (.lanePeriod 0) (s true) (fun t => (t.lane 0).demand == 2000 && (t.lane 0).sticky == FaultKind.saturation.bit) := by
  decide +kernel
theorem test_flow_unusable : let s (fallback gate : Bool) := (withLane { laneAs .manual with manualAir := 500, gateOpen := gate, faultConfig :=
      { FaultConfig.cold with fallback := fallback } }).setPoint 1 { analog 500 with quality := .stale }
    (s true true).goodValue lane0.airflowPoint = none ∧
    gives (.lanePeriod 0) (s true true) (fun t => (t.lane 0).openLoopSticky && (t.lane 0).periodNumber == 1) ∧
    gives (.lanePeriod 0) (s false true) (fun t => (t.lane 0).mode == .hold .manual && (t.lane 0).timer == none &&
      (t.lane 0).cause == some .flowUnusable && (t.entry 2).condition && t.air.holdMarks[(0 : LaneId)]) ∧
    gives (.lanePeriod 0) (s false false) (fun t => (t.lane 0).mode == .manual && (t.lane 0).timer == some 10 &&
      !(t.entry 2).condition && t.air == (s false false).air) := by decide +kernel
theorem test_flow_faults_in_auto : let r := { laneAs .auto with gateOpen := true }
    let s := (withLane r).setPoint 1 { analog 500 with quality := .stale }
    gives (.lanePeriod 0) s (fun t => (t.lane 0).mode == .hold .auto &&
      ((t.lane 0).record.map (·.setpoint)) == some 200) ∧
    gives (.lanePeriod 0) ((withLane { r with mismatchRun := 2 }).setPoint 1 (analog 900)) (fun t =>
      (t.lane 0).mode == .hold .auto && (t.lane 0).cause == some .flowMismatch) := by decide +kernel
theorem test_mismatch_in_a_period : let r := { laneAs .manual with manualAir := 450, mismatchRun := 2 }
    let s (gate : Bool) := (withLane { r with gateOpen := gate }).setPoint 1 (analog 900)
    lane0.mismatchCount ≤ 2 + 1 ∧ lane0.mismatchTolerance * 450 < ((450 : Int) - 900).natAbs * 100 ∧
    gives (.lanePeriod 0) (s true) (fun t => (t.lane 0).mode == .hold .manual && (t.lane 0).mismatchRun == 2 &&
      (t.lane 0).periodNumber == 0) ∧
    gives (.lanePeriod 0) (s false) (fun t => (t.lane 0).mode == .manual && (t.lane 0).mismatchRun == 0 &&
      (t.lane 0).cause == some .flowMismatch && (t.lane 0).correction == -50) := by decide +kernel
theorem test_valve_feedback_frame : lane0.feedbackPoint = some 2 ∧ onHub 0 2 = true ∧ (moving 1 .none).goodValue 2 = some 300 ∧
    (State.laneFeedback 0 0 (moving 1 .none)).lane 0 =
      { (moving 1 .none).lane 0 with sup := ⟨true, 250, 0, 2, some 400, 250, .dropped, 20, 2⟩ } ∧
    ((State.laneFeedback 0 0 ((moving 1 .none).setPoint 2 (analog 270))).lane 0).sup.moving = false ∧
    ((State.laneFeedback 0 0 ((moving 1 .none).setPoint 2 (analog 271))).lane 0).sup.moving = true ∧
    State.laneFeedback 0 0 (moving 1 .dropped) = moving 1 .dropped ∧
    ((State.laneFeedback 0 0 (moving 1 .sent)).lane 0).sup = ⟨true, 250, 10, 1, some 400, 250, .none, 20, 2⟩ ∧
    ((State.laneFeedback 0 0 (moving 1 .sent)).slot 0).valid = true ∧
    State.laneFeedback 1 0 (moving 1 .sent) = moving 1 .sent := by decide +kernel
theorem test_retry_in_hold : let s (x : RetryPhase) := withLane { (moving 1 x).lane 0 with mode := .hold .auto, valveCommand := 255 }
    gives (.valveRetryRevalidate 0) (s .sent) (fun t => (t.slot 0).valid && (t.slot 0).value == 255) ∧
    ((State.laneFeedback 0 0 ((s .dropped).setPoint 2 (analog 250))).slot 0).value = 255 := by decide +kernel
theorem test_stall_clears : let r := { laneAs (.hold .auto) with stalled := true, valveCommand := 290 }
    let s := withLane { r with sup := { Supervision.cold with tolerance := 20 } }
    ((State.laneFeedback 0 0 s).lane 0).stalled = false ∧
    State.laneFeedback 0 0 (s.setLane 0 { s.lane 0 with mode := .parked }) = s.setLane 0 { s.lane 0 with mode := .parked } := by
  decide +kernel

/-! ### The air allocator -/

theorem test_air_set : air0.inRange = true ∧ answers (.airSet 12 air0) running 0x20 air0.wire
      (fun t => t.air.params == air0 && t.air.surplus.isSome == t.air.surplusHolds) ∧
    refuses (.airSet 12 { air0 with minOnline := 0 }) running 0x20 .range := by decide +kernel
theorem test_air_freeze : let s := { running with air := { running.air with freeze := .seconds 60 } }
    answers (.airFreeze 3 1) s 0x21 [.u16 60] ∧ answers (.airFreeze 3 65534) s 0x21 [.u16 65534] ∧
    answers (.airFreeze 3 1) running 0x21 [.u16 1] ∧
    answers (.airFreeze 3 65535) s 0x21 [.u16 65535] (fun t => t.air.freeze == .indefinite) ∧
    answers (.airFreeze 3 0) s 0x21 [.u16 0] (fun t => t.air.freeze == .none) := by decide +kernel
/-- Lane 0 waits for 300 more. -/
def queued (freeze : Freeze) : State :=
  { running with air := { running.air with queue := [⟨0, 300, 900, false⟩], freeze := freeze } }
theorem test_air_events : (queued .none).Ready ∧ 0 < (queued .none).air.available ∧
    (queued .none).air.sumGrants ≤ (queued .none).air.online ∧
    gives .airServing (queued .none) (fun t => t.grant 0 == 750 && t.air.queue.isEmpty) ∧
    gives .airServing (queued .indefinite) (fun t => t.grant 0 == 450) ∧
    gives .freezeEnd (queued (.seconds 1)) (fun t => t.air.freeze == .none && t.grant 0 == 750) ∧
    (queued .indefinite).air.entryOf 0 = some ⟨0, 300, 900, false⟩ ∧
    gives (.entryStarved 0) (queued .indefinite) (fun t => (t.entry 4).condition &&
      t.air.entryOf 0 == some ⟨0, 300, 900, true⟩) :=
  ⟨ready_of_alarms plant_alarms_follow rfl rfl rfl rfl, by decide +kernel⟩
theorem test_serving_in_part : let s := { queued .none with air := { (queued .none).air with
      queue := [⟨0, 2551, 900, true⟩, ⟨1, 40, 900, false⟩] } }
    (s.air.queue.map (·.lane)).Nodup ∧ s.air.available = 2550 ∧
    gives .airServing s (fun t => t.grant 0 == 3000 && t.air.queue == [⟨0, 1, 900, true⟩, ⟨1, 40, 900, false⟩]) := by
  decide +kernel
/-- Lane 0 in ADOPTING, its entry of 100 at the head, with this correction limit in force and this feedback. -/
def adopting (limit : Nat) (feedback : Point) : State :=
  let s := (running.setGrant 0 0).setLane 0 { laneAs (.adopting .manual) with correctionLimit := limit }
  { s.setPoint 2 feedback with air := { s.air with grants := s.air.grants.set 0 0, queue := [⟨0, 100, 900, false⟩] } }
theorem test_adoption_in_serving : (adopting 50 (analog 300)).SlotsClaimed ∧
    inverseCurve lane0.minAir ((adopting 50 (analog 300)).lane 0).curve = (100000, 2000) ∧
    gives .airServing (adopting 250 (analog 300)) (fun t => (t.lane 0).mode == .manual && (t.lane 0).demand == 100 &&
      (t.lane 0).correction == 250 && (t.lane 0).valveCommand == 300 && (t.lane 0).manualAir == 100 &&
      (t.lane 0).timer == some 10 && t.slot 0 == ⟨.laneValve 0, 300, true⟩) ∧
    gives .airServing (adopting 249 (analog 300)) (fun t => (t.lane 0).correction == 249 && (t.lane 0).valveCommand == 299) ∧
    gives .airServing (adopting 20 (analog 0)) (fun t => (t.lane 0).correction == -20 && (t.lane 0).valveCommand == 30) ∧
    gives .airServing (adopting 50 { analog 300 with quality := .stale }) (fun t =>
      (t.lane 0).correction == 0 && (t.lane 0).valveCommand == 50) := by decide +kernel
/-- Lane 1 in ADOPTING with a grant and an entry, beside lane 0's grant; the online capacity as given. -/
def overdrawn (capacity : Nat) (held : Bool) : State :=
  let s := running.setLane 1 { laneAs (.adopting .auto) with config := some { lane0 with valveSlot := 9 } }
  { s with air := { s.air with
      grants := s.air.grants.set 1 60, queue := [⟨1, 40, 900, false⟩], capacity := [(0, capacity)],
      holdMarks := s.air.holdMarks.set 0 held } }
theorem test_cut_in_order : (overdrawn 509 false).air.online < (overdrawn 509 false).air.sumGrants ∧
    (overdrawn 509 false).cut.grant 1 = 59 ∧ (overdrawn 509 false).cut.grant 0 = 450 ∧
    (overdrawn 509 false).cut.air.entryOf 1 = some ⟨1, 41, 900, false⟩ ∧
    (overdrawn 449 false).cut.grant 1 = 0 ∧ (overdrawn 449 false).cut.grant 0 = 449 ∧
    (overdrawn 449 false).cut.air.short = false ∧ (overdrawn 99 false).cut.grant 0 = 100 ∧
    (overdrawn 99 false).cut.air.short = true ∧ ((overdrawn 99 false).cut.entry airShortEntry).condition = true ∧
    (overdrawn 99 true).cut.grant 0 = 450 ∧ (overdrawn 510 false).cut.air.grants = (overdrawn 510 false).air.grants ∧
    (overdrawn 99 false).cutBefore 0 1 = true := by decide +kernel
theorem test_capacity_lost : running.air.brought 1 = none ∧ running.air.brought 0 ≠ none ∧
    (running.loseCapacity 0).air.capacity = [] ∧ (running.loseCapacity 0).grant 0 = 100 := by decide +kernel

/-! ### Blowers and the header -/

theorem test_blower_set : let s := fielded
    s.Ready ∧ lengthFor 35 (.u8 (0 : BlowerId).val :: blower0.wire) = true ∧ blower0.inRange = true ∧
    (s.blower 0).config.all blower0.sameStructure = true ∧ (s.pointAt 9).kind ≠ .analog ∧
    (s.pointAt 5).kind ≠ .discrete ∧ (∀ x ∈ blowerSlots 0 blower0, s.slotFree x.1 x.2 = true) ∧
    answers (.blowerSet 35 0 blower0) s 0x28 [.u8 1] (fun t => (t.blower 0).config == some blower0 &&
      (t.slot 1).claimant == .blowerRun 0 && (t.slot 2).claimant == .blowerSpeed 0 &&
      (t.slot 3).claimant == .blowerBlowoff 0) :=
  ⟨ready_of_alarms cold_alarms_follow rfl rfl rfl rfl, by decide +kernel⟩
theorem test_blower_set_refused : refuses (.blowerSet 35 0 { blower0 with runSlot := 2 }) plant 0x28 .range ∧
    (running.blower 0).takesStructure = false ∧ refuses (.blowerSet 35 0 { blower0 with runKw := 111 }) running 0x28 .state ∧
    answers (.blowerSet 35 0 { blower0 with seq := { seq0 with minSpeed := 310 } }) running 0x28 [.u8 4] ∧
    refuses (.blowerSet 35 1 { blower0 with runPoint := 0 }) plant 0x28 .conflict := by decide +kernel
theorem test_blower_start : plant.Ready ∧ (plant.blower 0).config = some blower0 ∧
    answers (.blowerStart 3 0) plant 0x29 [.u8 3] (fun t =>
      (t.blower 0).state == .starting .blowoffOpen .command seq0 && (t.blower 0).power == .start &&
      (t.blower 0).result.map (·.attempts) == some 1) ∧
    refuses (.blowerStart 3 0) running 0x29 .state ∧ refuses (.blowerStart 3 5) plant 0x29 .unconfigured ∧
    refuses (.blowerStop 3 5) plant 0x29 .unconfigured ∧ refuses (.blowerStop 3 0) (withBlower .adopting) 0x29 .state ∧
    answers (.blowerStop 3 0) plant 0x29 [.u8 2] ∧
    answers (.blowerStop 3 0) (withBlower (.stopping .runDown)) 0x29 [.u8 5] :=
  ⟨ready_of_alarms plant_alarms_follow rfl rfl rfl rfl, by decide +kernel⟩
theorem test_blower_stop : answers (.blowerStop 3 0) running 0x29 [.u8 5] (fun t =>
      (t.blower 0).state == .stopping .unloading && t.online.isEmpty && t.air.brought 0 == none &&
      (t.blower 0).stepTimer == some 1000) ∧
    gives (.blowerStop 3 0) (starting .blowoffOpen 1) (fun t => (t.blower 0).state == .off) ∧
    gives (.blowerStop 3 0) (starting .ramp 1) (fun t => (t.blower 0).state == .stopping .runDown &&
      (t.blower 0).stepTimer == some 1500 && (t.blower 0).result.map (·.outcome) == some .aborted) := by decide +kernel
/-- Blower 0's run, speed and blow-off slots carry these values, valid. -/
def puts (t : State) (run speed blowoff : Nat) : Bool :=
  t.slot 1 == ⟨.blowerRun 0, run, true⟩ && t.slot 2 == ⟨.blowerSpeed 0, speed, true⟩ &&
  t.slot 3 == ⟨.blowerBlowoff 0, blowoff, true⟩
theorem test_blower_outputs : gives (.blowerStop 3 0) running (fun t => puts t 1 300 1000) ∧
    gives (.blowerLockout 3 0) plant (fun t => puts t 0 0 0) ∧
    gives (.blowoffTimeEnd 0) (starting .blowoffOpen 1) (fun t => puts t 1 300 1000) ∧
    gives (.blowoffTimeEnd 0) (starting .loading 1) (fun t => puts t 1 300 0) ∧
    gives (.rampTimeout 0) (starting .ramp 2) (fun t => puts t 0 0 1000) ∧
    gives (.surgeDetected 0) running (fun t => puts t 1 500 1000) ∧
    gives (.unloadingTimeEnd 0) (withBlower (.stopping .unloading)) (fun t => puts t 0 0 1000) ∧
    puts (running.testRunning 0 (some false)) 0 0 1000 = true := by decide +kernel
theorem test_blower_reset_lockout : answers (.blowerReset 3 0) (withBlower .tripped) 0x29 [.u8 2] ∧
    answers (.blowerReset 3 0) (withBlower .failed) 0x29 [.u8 2] ∧ refuses (.blowerReset 3 0) plant 0x29 .state ∧
    (plant.blower 0).lockable = true ∧ answers (.blowerLockout 3 0) plant 0x29 [.u8 8]
      (fun t => t.alarm.blowerFlags[(0 : BlowerId)]) ∧
    (running.blower 0).lockable = false ∧ refuses (.blowerLockout 3 0) running 0x29 .state ∧
    answers (.blowerUnlock 3 0) (withBlower .lockedOut) 0x29 [.u8 2] ∧
    refuses (.blowerUnlock 3 0) plant 0x29 .state := by decide +kernel
theorem test_duty_set : answers (.dutySet 3 [0]) plant 0x2A [.u8 1, .u8 0] (fun t => t.duty == [0]) ∧
    answers (.dutySet 2 []) running 0x2A [.u8 0] (fun t => t.duty.isEmpty) ∧
    refuses (.dutySet 4 [0, 0]) plant 0x2A .range ∧ refuses (.dutySet 4 [0, 1]) plant 0x2A .range := by decide +kernel
theorem test_header_set : header0.inRange = true ∧ answers (.headerSet 22 { header0 with maxSetpoint := 600 }) plant 0x2B
      ({ header0 with maxSetpoint := 600 }.wire ++ [.u16 600]) ∧
    answers (.headerSet 22 header0) fielded 0x2B (header0.wire ++ [.u16 600])
      (fun t => t.header.timer == some 5 && t.header.movTimer == some 120) ∧
    refuses (.headerSet 22 { header0 with movLow := 900 }) plant 0x2B .range ∧
    refuses (.headerSet 22 { header0 with pressurePoint := 9 }) plant 0x2B .conflict := by decide +kernel
theorem test_start_attempt_fails : ((starting .motorStart 1).blower 0).state = .starting .motorStart .command seq0 ∧
    1 < seq0.attemptLimit ∧ gives (.runConfirmTimeout 0) (starting .motorStart 1) (fun t =>
      (t.blower 0).state == .starting .retryWait .command seq0 && (t.blower 0).stepTimer == some 2000 &&
      (t.blower 0).power == .none) ∧
    seq0.attemptLimit ≤ 2 ∧ gives (.rampTimeout 0) (starting .ramp 2) (fun t => (t.blower 0).state == .failed &&
      (t.entry 60).condition && t.budget.commits.isEmpty) := by decide +kernel
theorem test_blowoff_timeout : let s := (starting .loading 1).setBlower 0 { (starting .loading 1).blower 0 with
      config := some { blower0 with blowoffPoint := some 8 } }
    gives (.blowoffTimeEnd 0) s (fun t => (t.blower 0).result.map (·.cause) == some .blowoffTimeout) := by decide +kernel
theorem test_start_goes_on : gives (.blowoffTimeEnd 0) (starting .blowoffOpen 1) (fun t =>
      (t.blower 0).state == .starting .motorStart .command seq0 && (t.blower 0).stepTimer == some 500) ∧
    gives (.blowoffTimeEnd 0) (starting .loading 1) (fun t => (t.blower 0).state == .online && t.online == [0] &&
      t.air.brought 0 == some 3000 && (t.blower 0).power == .run) := by decide +kernel
theorem test_retry_and_deferral : gives (.retryDelayEnd 0) ((starting .retryWait 1).setBudget State.reset.budget)
      (fun t => (t.blower 0).result.map (·.attempts) == some 2) ∧
    gives (.startDeferred 0) (starting .waitPower 1) (fun t => (t.entry 63).condition) := by decide +kernel
theorem test_blower_stopping : (running.blower 0).config = some blower0 ∧
    gives (.unloadingTimeEnd 0) (withBlower (.stopping .unloading)) (fun t =>
      (t.blower 0).state == .stopping .runDown && (t.blower 0).stepTimer == some 1500) ∧
    gives (.stopConfirmTimeout 0) (withBlower (.stopping .runDown)) (fun t => (t.blower 0).state == .failed) ∧
    gives (.blowerFoundRunning 0) plant (fun t => (t.blower 0).state == .online && t.online == [0]) := by decide +kernel
/-- Blower 0 ONLINE with its surge guard in this phase. -/
def guarded (p : GuardPhase) : State :=
  running.setBlower 0 { running.blower 0 with surge := ⟨p, 3, 5, 5⟩ }
theorem test_surge : running.online.length ≤ running.air.params.minOnline ∧
    gives (.surgeDetected 0) (guarded .idle) (fun t => (t.blower 0).surge == ⟨.holding, 0, 750, 5⟩ &&
      (t.entry 62).condition) ∧
    gives (.surgeHoldEnd 0) (guarded .holding) (fun t => (t.blower 0).surge.phase == .watching) ∧
    gives (.surgeWatchEnd 0) (guarded .watching) (fun t => (t.blower 0).surge.phase == .idle) := by decide +kernel
theorem test_stage_in : let s := { plant with duty := [0], air := { plant.air with shortfall := some 1 } }
    (∀ x, (s.blower x).state.staged = false) ∧ s.duty.find? (fun x => (s.blower x).state = .off) = some 0 ∧
    gives .stageInWanted s (fun t => (t.blower 0).state == .starting .blowoffOpen .staging seq0 &&
      t.air.shortfall == some 180) := by decide +kernel
/-- Blowers 0 and 1 ONLINE, blower 1 last. -/
def twoRunning : State :=
  let s := running.setBlower 1 { running.blower 0 with config := some { blower0 with
    runPoint := 11, runSlot := 6, speedSlot := 7, blowoffSlot := 8 } }
  { s with online := [0, 1], air := { s.air with capacity := [(0, 3000), (1, 3000)], surplus := some 1 },
           budget := { s.budget with ceiling := some 150, hard := true, shedding := true, shedTimer := some 1,
                                     commits := [⟨.blower 0, .run, 110, 900⟩, ⟨.blower 1, .run, 110, 950⟩] } }
theorem test_stage_out : twoRunning.online.getLast? = some 1 ∧ twoRunning.air.brought 1 = some 3000 ∧
    twoRunning.air.params.minOnline < twoRunning.air.capacity.length ∧
    twoRunning.air.sumGrants + (twoRunning.air.brought 1).getD 0 ≤ twoRunning.air.online ∧
    (twoRunning.blower 1).state = .online ∧
    gives .stageOutWanted twoRunning (fun t => (t.blower 1).state == .stopping .unloading && t.online == [0] &&
      t.grant 0 == 450) := by decide +kernel
theorem test_speed_range : let f := { blower0 with seq := { seq0 with minSpeed := 550, maxSpeed := 600 } }
    let two := twoRunning.setBlower 1 { twoRunning.blower 1 with config := some { f with
      runPoint := 11, runSlot := 6, speedSlot := 7, blowoffSlot := 8 } }
    -- a BLOWER_SET that changes the speeds of an ONLINE blower, and one that does not
    gives (.blowerSet 35 0 f) running (fun t => t.header.range == some (550, 600) && t.header.commonSpeed == 550 &&
      t.slot 2 == ⟨.blowerSpeed 0, 550, true⟩) ∧
    gives (.blowerSet 35 0 blower0) running (fun t => t.header == running.header) ∧
    gives (.blowerSet 35 0 { blower0 with seq := { seq0 with maxSpeed := 400 } }) two (fun t =>
      t.header.range == some (400, 400)) ∧
    -- the last one leaves, one of two leaves, one joins
    gives (.blowerStop 3 0) running (fun t => t.header.range == none && t.header.commonSpeed == 500) ∧
    gives .stageOutWanted two (fun t => t.header.range == some (300, 900) && t.header.commonSpeed == 500) ∧
    gives (.blowerFoundRunning 0) plant (fun t => t.header.range == some (300, 900) && t.header.commonSpeed == 300) := by
  decide +kernel
theorem test_start_asks_for_power : let s (ceiling : Nat) := { twoRunning.setBlower 0 (blowerAs .off) with
      online := [1], budget := { plant.budget with ceiling := some ceiling } }
    plant.budget.waitOf (.blower 0) = none ∧ (s 160).budget.fits 160 = true ∧ (s 159).budget.fits 160 = false ∧
    gives (.blowerStart 3 0) (s 160) (fun t => t.budget.commits == [⟨.blower 0, .start, 160, 1000⟩] &&
      (t.blower 0).stepTimer == some 1000) ∧
    gives (.blowerStart 3 0) (s 159) (fun t => t.budget.waits == [⟨.blower 0, 1, 160, 1000⟩] &&
      (t.blower 0).power == .waiting) ∧
    gives (.blowerStart 3 0) { plant with budget := { plant.budget with ceiling := some 0 } } (fun t =>
      t.budget.waits == [⟨.blower 0, 0, 160, 1000⟩]) ∧
    gives (.pumpStart 3 0) { plant with budget := { plant.budget with ceiling := some 6 } } (fun t =>
      t.budget.commits == [⟨.pump 0, .pump, 6, 1000⟩]) ∧
    gives (.pumpStart 3 0) { plant with budget := { plant.budget with ceiling := some 5 } } (fun t =>
      t.budget.waits == [⟨.pump 0, 2, 6, 1000⟩]) ∧
    placePower ⟨.pump 0, 1, 5, 9⟩ [⟨.pump 1, 0, 5, 1⟩, ⟨.pump 2, 1, 5, 2⟩, ⟨.pump 3, 2, 5, 3⟩] =
      [⟨.pump 1, 0, 5, 1⟩, ⟨.pump 2, 1, 5, 2⟩, ⟨.pump 0, 1, 5, 9⟩, ⟨.pump 3, 2, 5, 3⟩] := by decide +kernel
theorem test_release_is_noticed_first : let s := { (starting .blowoffOpen 1) with budget :=
      { plant.budget with ceiling := some 100, shedding := true, commits := [⟨.blower 0, .start, 160, 900⟩] } }
    gives (.blowerStop 3 0) s (fun t => (t.notices.drop plant.notices.length).map (·.source) == [.budget, .blower 0]) := by
  decide +kernel
theorem test_shed_expiry : twoRunning.budget.over = true ∧ 1 < twoRunning.online.length ∧
    gives .shedTimerExpiry twoRunning (fun t => t.online == [0] && t.budget.shedTimer == some 120) := by decide +kernel
theorem test_header_period : running.Ready ∧ running.online ≠ [] ∧ running.goodValue 6 = some 550 ∧
    gives .headerPeriod running (fun t => t.header.timer == some 5 && t.header.previousError == some 50 &&
      !(t.entry 102).condition) ∧
    gives .headerPeriod plant (fun t => t.header.commonSpeed == 0 && t.header.timer == some 5) :=
  ⟨ready_of_alarms plant_alarms_follow rfl rfl rfl rfl, by decide +kernel⟩
/-- The manual's worked example of a header period (section 4.8), and the same with no previous error: 712 plus 1.125. -/
theorem test_header_loop : let f := { header0 with speedKp := 150, speedTi := 60, headerPeriod := 5 }
    let s (before : Option Int) := (running.setPoint 6 (analog 511)).setHeader { running.header with
      config := some f, setpoint := 520, previousError := before, commonSpeed := 712, range := some (500, 980) }
    gives .headerPeriod (s (some 4)) (fun t => t.header.commonSpeed == 721 && t.header.previousError == some 9) ∧
    gives .headerPeriod (s none) (fun t => t.header.commonSpeed == 713 && t.header.previousError == some 9) ∧
    gives .headerPeriod (s (some (-500))) (fun t => t.header.commonSpeed == 980) := by decide +kernel
theorem test_header_without_its_pressure :
    let s := (running.setPoint 6 { analog 550 with quality := .stale }).setHeader { running.header with previousError := some 9 }
    s.header.range.isSome = true ∧ s.SlotsClaimed ∧ s.goodValue 6 = none ∧ gives .headerPeriod s (fun t =>
      t.header.previousError == none && t.header.commonSpeed == 500 && t.header.timer == some 5 &&
      (t.slot 2).value == 500) := by decide +kernel
/-- Lane 0's valve at this opening, its slot valid. -/
def opened (n : Nat) : State := (withLane { laneAs .auto with valveCommand := n }).writeSlot 0 n true
theorem test_mov_period : (opened 901).mostOpen = some 901 ∧ (opened 599).mostOpen = some 599 ∧
    (withMode .parked).mostOpen = none ∧ header0.movHigh < 901 ∧ 599 < header0.movLow ∧
    gives .movPeriod (opened 901) (fun t => t.header.setpoint == 610 && t.header.movTimer == some 120) ∧
    gives .movPeriod (opened 900) (fun t => t.header.setpoint == 600) ∧
    gives .movPeriod (opened 600) (fun t => t.header.setpoint == 600) ∧
    gives .movPeriod (opened 599) (fun t => t.header.setpoint == 590) ∧
    gives .movPeriod (withMode .parked) (fun t => t.header.setpoint == 600 && t.header.lastMov == none) := by
  decide +kernel
theorem test_air_set_surplus : let s := { running with air := { running.air with surplus := some 7 } }
    { s.air with params := air0 }.surplusHolds = false ∧
    answers (.airSet 12 air0) s 0x20 air0.wire (fun t => t.air.surplus == none) ∧
    answers (.airSet 12 air0) twoRunning 0x20 air0.wire (fun t => t.air.surplus == some 1) ∧
    answers (.airSet 12 air0) { twoRunning with air := { twoRunning.air with surplus := none } } 0x20 air0.wire
      (fun t => t.air.surplus == some 10) := by decide +kernel
theorem test_blower_set_moves_its_slots : let f := { blower0 with runSlot := 40 }
    blowerSlots 0 blower0 ≠ blowerSlots 0 f ∧ answers (.blowerSet 35 0 f) plant 0x28 [.u8 2] (fun t =>
      (t.slot 40).claimant == .blowerRun 0 && (t.slot 1).claimant == .none && (t.slot 2).claimant == .blowerSpeed 0) ∧
    refuses (.blowerSet 35 0 { blower0 with runSlot := 4 }) plant 0x28 .conflict ∧
    refuses (.blowerSet 35 0 { blower0 with flowPoint := 9 }) plant 0x28 .conflict ∧
    refuses (.blowerSet 35 0 { blower0 with blowoffPoint := some 9 }) plant 0x28 .conflict := by decide +kernel
theorem test_blower_unconfigured : refuses (.blowerReset 3 5) plant 0x29 .unconfigured ∧
    refuses (.blowerLockout 3 5) plant 0x29 .unconfigured ∧ refuses (.blowerUnlock 3 5) plant 0x29 .unconfigured ∧
    refuses (.dutySet 3 [6]) running 0x2A .range ∧ refuses (.dutySet 3 [255]) running 0x2A .range := by decide +kernel
theorem test_surge_offer : let s := twoRunning
    gives (.surgeDetected 0) s (fun t => (t.blower 1).state == .stopping .unloading && t.online == [0] &&
      (t.blower 0).surge.phase == .holding && (t.entry 62).condition) ∧
    gives (.surgeDetected 1) s (fun t => (t.blower 1).state == .stopping .unloading && !(t.entry 66).condition) := by
  decide +kernel
theorem test_running_feedback_at_rest : let s := withBlower .adopting
    (s.testRunning 0 (some true)).online = [0] ∧ ((s.testRunning 0 (some false)).blower 0).state = .off ∧
    s.testRunning 0 none = s ∧
    ((plant.testRunning 0 (some true)).blower 0).foundRunning = 1 ∧
    (((plant.setBlower 0 { blowerAs .off with foundRunning := 4 }).testRunning 0 (some true)).blower 0).state = .online ∧
    (((plant.setBlower 0 { blowerAs .off with foundRunning := 3 }).testRunning 0 (some true)).blower 0).state = .off ∧
    (((plant.setBlower 0 { blowerAs .off with foundRunning := 3 }).testRunning 0 none).blower 0).foundRunning = 0 := by
  decide +kernel
theorem test_running_feedback_in_a_start :
    (((starting .motorStart 1).testRunning 0 (some true)).blower 0).state = .starting .ramp .command seq0 ∧
    (((starting .ramp 1).testRunning 0 (some false)).blower 0).state = .starting .retryWait .command seq0 ∧
    (((starting .loading 2).testRunning 0 (some false)).blower 0).state = .failed ∧
    (starting .motorStart 1).testRunning 0 (some false) = starting .motorStart 1 ∧
    (starting .blowoffOpen 1).testRunning 0 (some true) = starting .blowoffOpen 1 := by decide +kernel
theorem test_trip : ((running.testRunning 0 (some false)).blower 0).state = .tripped ∧
    (running.testRunning 0 (some false)).budget.commits = [] ∧ (running.testRunning 0 (some false)).grant 0 = 100 ∧
    ((running.testRunning 0 (some false)).entry 61).condition = true ∧
    ((running.testRunning 0 none).blower 0).blind = true ∧ running.testRunning 0 (some true) = running := by decide +kernel
theorem test_running_feedback_in_a_stop : let s (x : BlowerState) := running.setBlower 0 { blowerAs x with power := .run }
    (((s (.stopping .runDown)).testRunning 0 (some false)).blower 0).state = .off ∧
    ((s .failed).testRunning 0 (some false)).budget.commits = [] ∧ (s .failed).testRunning 0 none = s .failed := by
  decide +kernel
/-- Blower 0 in this state, its blow-off point bound. -/
def withBlowoff (x : BlowerState) : State := (starting .ramp 1).setBlower 0 { (starting .ramp 1).blower 0 with
  config := some { blower0 with blowoffPoint := some 8 }, state := x }
theorem test_blowoff_feedback : let s (x : StartStep) := withBlowoff (.starting x .command seq0)
    (s .blowoffOpen).testBlowoff 0 (some 949) = s .blowoffOpen ∧
    (((s .blowoffOpen).testBlowoff 0 (some 950)).blower 0).state = .starting .motorStart .command seq0 ∧
    (s .loading).testBlowoff 0 (some 51) = s .loading ∧ ((s .loading).testBlowoff 0 (some 50)).online = [0] ∧
    (((withBlowoff (.stopping .unloading)).testBlowoff 0 (some 950)).blower 0).state = .stopping .runDown ∧
    (withBlowoff (.stopping .unloading)).testBlowoff 0 (some 949) = withBlowoff (.stopping .unloading) := by decide +kernel
theorem test_flow_feedback : ((starting .ramp 1).testFlow 0 blower0 (some 799)) = starting .ramp 1 ∧
    (((starting .ramp 1).testFlow 0 blower0 (some 800)).blower 0).state = .starting .loading .command seq0 ∧
    ((starting .ramp 1).testFlow 0 blower0 (some 800)).air.freeze = .seconds (starting .ramp 1).air.params.loadFreeze ∧
    (((guarded .idle).testFlow 0 blower0 (some 799)).blower 0).surge.lowFlow = 4 ∧
    (((guarded .watching).testFlow 0 blower0 none).blower 0).surge.lowFlow = 0 ∧
    (guarded .holding).testFlow 0 blower0 (some 0) = guarded .holding ∧
    (((running.setBlower 0 { running.blower 0 with surge := ⟨.idle, 4, 5, 5⟩ }).testFlow 0 blower0 (some 799)).blower 0).surge.phase =
      .holding := by decide +kernel
theorem test_blower_time : let s (x : BlowerState) (n : Nat) := running.setBlower 0 { blowerAs x with stepTimer := some n }
    (((s (.stopping .unloading) 1).countBlowerTime 0 blower0).blower 0).state = .stopping .runDown ∧
    (((s (.stopping .runDown) 1).countBlowerTime 0 blower0).blower 0).state = .failed ∧
    (((s (.stopping .runDown) 2).countBlowerTime 0 blower0).blower 0).stepTimer = some 1 ∧
    (((guarded .holding).countBlowerTime 0 blower0).blower 0).surge.remaining = 4 ∧
    (((running.setBlower 0 { running.blower 0 with surge := ⟨.watching, 0, 1, 5⟩ }).countBlowerTime 0 blower0).blower 0).surge.phase =
      .idle := by decide +kernel
theorem test_blower_frame : let s := starting .motorStart 1
    let w := (starting .retryWait 1).setBlower 0 { s.blower 0 with
      state := .starting .retryWait .command seq0, stepTimer := none, power := .none }
    onHub 0 blower0.runPoint = true ∧ ((State.blowerFrame 0 s 0 s).blower 0).stepTimer = some 4 ∧
    ((State.blowerFrame 0 plant 0 s).blower 0).stepTimer = some 5 ∧ State.blowerFrame 1 s 0 s = s ∧
    ((State.blowerFrame 0 w 0 w).blower 0).result.map (·.attempts) = some 2 := by decide +kernel

/-! ### The power budget -/

theorem test_ceiling_set : let u := { running.budget with ceiling := some 110 }
    (running.setBudget u).budget.over = false ∧ (running.setBudget { u with ceiling := some 109 }).budget.over = true ∧
    answers (.ceilingSet 6 110 0 10) running 0x30 [.u16 110, .u8 0, .u16 10, .u8 0, .u16 110] ∧
    answers (.ceilingSet 6 109 1 3600) running 0x30 [.u16 109, .u8 1, .u16 3600, .u8 1, .u16 110]
      (fun t => (t.entry 101).condition && t.plant.pumpCap) ∧
    answers (.ceilingSet 6 65535 0 120) running 0x30 [.u16 65535, .u8 0, .u16 120, .u8 0, .u16 110] ∧
    refuses (.ceilingSet 6 110 2 10) running 0x30 .range ∧ refuses (.ceilingSet 6 110 0 9) running 0x30 .range ∧
    refuses (.ceilingSet 6 110 0 3601) running 0x30 .range := by decide +kernel
/-- Pump 0 RUNNING at 500, pump 1 waiting to start, beside blower 0's 110 kW, under a ceiling of 125. -/
def loaded : State :=
  let s := (running.setTrain 0 { trainAs .running with speed := 500, power := .pump }).setTrain 1
    { trainAs (.starting .waitPower) with
      config := some { train0 with runSlot := 6, speedSlot := 7, runPoint := 11, lanes := [1] }, power := .waiting }
  let s := (s.claimSlot 6 (.pumpRun 1)).claimSlot 7 (.pumpSpeed 1)
  { s with budget := { s.budget with ceiling := some 125, waits := [⟨.pump 1, 2, 6, 950⟩],
                                     commits := [⟨.blower 0, .run, 110, 900⟩, ⟨.pump 0, .pump, 15, 910⟩] } }
theorem test_ceiling_exceeded : loaded.Ready ∧ loaded.SlotsClaimed ∧ loaded.budget.over = false ∧
    gives (.ceilingSet 6 115 1 10) loaded (fun t => t.budget.shedding && t.budget.shedTimer == some 10 &&
      t.budget.waits == [] && t.budget.commits == [⟨.blower 0, .run, 110, 900⟩, ⟨.pump 0, .pump, 6, 910⟩] &&
      (t.train 0).speed == 200 && (t.slot 5).value == 200 && (t.train 1).withdrawn && (t.train 1).power == .none &&
      (t.entry 86).condition && t.plant.pumpCap) ∧
    gives (.ceilingSet 6 116 0 10) loaded (fun t => !t.budget.shedding && t.budget.shedTimer == none &&
      !t.plant.pumpCap && (t.train 0).speed == 200 && !(t.train 1).withdrawn && !(t.entry 101).condition &&
      !(t.entry 86).condition && t.budget.waits == [⟨.pump 1, 2, 6, 1000⟩]) ∧
    gives (.ceilingSet 6 124 0 10) { loaded with budget := { loaded.budget with ceiling := some 130 } }
      (fun t => (t.train 0).speed == 200 && (t.train 1).state == .starting .runConfirm && !t.budget.shedding) :=
  ⟨ready_of_alarms plant_alarms_follow rfl rfl rfl rfl, by decide +kernel⟩
/-- `loaded` in SHEDDING, pump 1's start withdrawn. -/
def shed : State :=
  let s := (loaded.setTrain 0 { trainAs .running with speed := 200, power := .pump }).setTrain 1
    { loaded.train 1 with power := .none, withdrawn := true }
  { s with plant := { s.plant with pumpCap := true },
           budget := { s.budget with ceiling := some 115, hard := true, shedding := true, shedTimer := some 7, waits := [],
                                     commits := [⟨.blower 0, .run, 110, 900⟩, ⟨.pump 0, .pump, 6, 910⟩] } }
theorem test_ceiling_in_shedding : shed.budget.over = true ∧
    gives (.ceilingSet 6 114 1 10) shed (fun t => t.budget.shedding && t.budget.shedTimer == some 7) ∧
    gives (.ceilingSet 6 114 0 10) shed (fun t => t.budget.shedding && t.budget.shedTimer == none) ∧
    gives (.ceilingSet 6 116 1 10) shed (fun t => !t.budget.shedding && t.budget.shedTimer == none && !t.plant.pumpCap &&
      t.budget.waits == [⟨.pump 1, 2, 6, 1000⟩] && (t.train 1).power == .waiting) ∧
    gives (.ceilingSet 6 130 1 10) shed (fun t => !t.budget.shedding && t.budget.waits == [] &&
      (t.train 1).state == .starting .runConfirm && (t.slot 7).value == 200) := by decide +kernel
theorem test_ceiling_raised : gives (.ceilingSet 6 131 0 10) loaded (fun t => t.budget.waits == []) ∧
    gives (.ceilingSet 6 125 0 10) loaded (fun t => t.budget.waits == loaded.budget.waits) := by decide +kernel
/-- Blower 0 in WAIT_POWER, its request first in the queue, under this ceiling. -/
def waiting (ceiling : Nat) : State :=
  let s := plant.setBlower 0 { blowerAs (.starting .waitPower .command seq0) with
    power := .waiting, result := some ⟨1, .none, 0, .inProgress⟩ }
  { s with budget := { s.budget with ceiling := some ceiling, waits := [⟨.blower 0, 0, 160, 900⟩] } }
theorem test_power_admission : (waiting 160).Ready ∧ (waiting 160).budget.fits 160 = true ∧
    (waiting 159).budget.fits 160 = false ∧
    gives .powerAdmission (waiting 160) (fun t => (t.blower 0).state == .starting .blowoffOpen .command seq0 &&
      (t.blower 0).power == .start && t.budget.waits.isEmpty) ∧
    gives .powerAdmission (waiting 159) (fun t => (t.blower 0).power == .waiting) ∧ plant.budget.waits = [] :=
  ⟨ready_of_alarms plant_alarms_follow rfl rfl rfl rfl, by decide +kernel⟩
theorem test_pump_admission : let s := { withPump (.starting .waitPower) with
      budget := { plant.budget with waits := [⟨.pump 0, 1, 7, 900⟩] } }
    (s.train 0).config = some train0 ∧ s.budget.fits 7 = true ∧ gives .powerAdmission s (fun t =>
      (t.train 0).state == .starting .runConfirm && (t.train 0).power == .pump && (t.train 0).speed == 200) := by
  decide +kernel
theorem test_increase_admission : let s := { plant.setTrain 0 { trainAs .running with
      power := .pump, speed := 200, increaseTarget := some 500 } with
      budget := { plant.budget with commits := [⟨.pump 0, .pump, 6, 900⟩], waits := [⟨.pump 0, 2, 9, 900⟩] } }
    s.budget.commitOf (.pump 0) = some ⟨.pump 0, .pump, 6, 900⟩ ∧ gives .powerAdmission s (fun t =>
      (t.train 0).speed == 500 && t.budget.commits == [⟨.pump 0, .pump, 15, 900⟩] && t.budget.waits.isEmpty &&
      (t.slot 5).value == 500) := by decide +kernel

/-! ### Flow pacing -/

theorem test_train_set : let s := fielded
    s.Ready ∧ train0.inRange = true ∧ lanesTaken s 0 train0 = false ∧
    lengthFor 34 (.u8 (0 : TrainId).val :: train0.wire) = true ∧ (∀ x ∈ pumpSlots 0 train0, s.slotFree x.1 x.2 = true) ∧
    (s.pointAt 10).kind ≠ .analog ∧ (s.pointAt 3).kind ≠ .discrete ∧ (s.pointAt 4).kind ≠ .discrete ∧
    gives (.trainSet 34 0 train0) s (fun t => (t.train 0).state == .adopting && (t.train 0).timer == some 30 &&
      (t.slot 4).claimant == .pumpRun 0 && (t.slot 5).claimant == .pumpSpeed 0) :=
  ⟨ready_of_alarms cold_alarms_follow rfl rfl rfl rfl, by decide +kernel⟩
theorem test_train_set_refused : refuses (.trainSet 35 0 { train0 with lanes := [0, 0] }) plant 0x38 .range ∧
    lanesTaken plant 1 train0 = true ∧ refuses (.trainSet 34 1 train0) plant 0x38 .range ∧
    (PumpState.running).takesStructure = false ∧
    refuses (.trainSet 34 0 { train0 with ratedKw := 31 }) (withPump .running) 0x38 .state ∧
    gives (.trainSet 34 0 { train0 with lanes := [1] }) plant
      (fun t => (t.train 0).config == some { train0 with lanes := [1] } && (t.train 0).state == .off) ∧
    gives (.trainSet 34 0 { train0 with blanketPoint := none }) plant (fun t => (t.train 0).blanketRun == 0) := by
  decide +kernel
theorem test_pump_commands : answers (.pumpStart 3 0) plant 0x39 [.u8 3] ∧
    refuses (.pumpStart 3 0) (withPump .running) 0x39 .state ∧ refuses (.pumpStop 3 0) (withPump .adopting) 0x39 .state ∧
    answers (.pumpStop 3 0) plant 0x39 [.u8 2] ∧
    answers (.pumpStop 3 0) (withPump .running) 0x39 [.u8 2] (fun t => (t.train 0).state == .off) ∧
    answers (.pumpStop 3 0) (withPump (.starting .runConfirm)) 0x39 [.u8 2] ∧
    (withPump (.starting .runConfirm)).budget.waitOf (.pump 0) = none ∧
    answers (.pumpReset 3 0) (withPump .tripped) 0x39 [.u8 2] ∧ refuses (.pumpReset 3 0) plant 0x39 .state ∧
    answers (.pumpLockout 3 0) plant 0x39 [.u8 6] ∧ answers (.pumpUnlock 3 0) (withPump .lockedOut) 0x39 [.u8 2] ∧
    refuses (.pumpUnlock 3 0) plant 0x39 .state := by decide +kernel
theorem test_pacing_period : let s := plant.setTrain 0 { trainAs .running with
      config := some { train0 with blanketPoint := none }, speed := 500 }
    (s.train 0).state = .running ∧ lanesIdle s train0 = false ∧ s.goodValue 3 = some 900 ∧ s.goodValue 4 = some 400 ∧
    gives (.pacingPeriod 0) s (fun t => (t.train 0).rasSetpoint == some 540 && (t.train 0).timer == some 30) ∧
    lanesIdle (withMode .parked) train0 = true ∧
    gives (.pacingPeriod 0) ((withMode .parked).setTrain 0 (trainAs .running))
      (fun t => (t.train 0).rasSetpoint == some 100) ∧
    gives (.pacingPeriod 0) plant (fun t => (t.train 0).rasSetpoint == none) := by decide +kernel
/-- Pump 0 RUNNING at 500 with its commitment, the flow 100 short of the setpoint, so that its target is 600. -/
def pursuing (ceiling : Nat) (waits : List PowerEntry) : State :=
  let s := plant.setTrain 0 { trainAs .running with
    config := some { train0 with blanketPoint := none }, speed := 500, power := .pump,
    increaseTarget := if waits.isEmpty then none else some 550, increaseWait := 9 }
  { s.setPoint 4 (analog 440) with
    budget := { s.budget with ceiling := some ceiling, commits := [⟨.pump 0, .pump, 15, 900⟩], waits := waits } }
theorem test_increase_in_a_pacing_period :
    gives (.pacingPeriod 0) (pursuing 18 []) (fun t => (t.train 0).speed == 600 && t.budget.waits == [] &&
      t.budget.commits == [⟨.pump 0, .pump, 18, 900⟩] && (t.slot 5).value == 600) ∧
    gives (.pacingPeriod 0) (pursuing 17 []) (fun t => (t.train 0).speed == 500 && (t.train 0).increaseWait == 0 &&
      (t.train 0).increaseTarget == some 600 && t.budget.waits == [⟨.pump 0, 2, 3, 1000⟩]) ∧
    gives (.pacingPeriod 0) (pursuing 16 [⟨.pump 0, 2, 2, 900⟩]) (fun t => (t.train 0).increaseTarget == some 600 &&
      (t.train 0).increaseWait == 9 && t.budget.waits == [⟨.pump 0, 2, 3, 900⟩]) ∧
    (pursuing 18 [⟨.pump 0, 2, 4, 900⟩]).budget.isHead (.pump 0) = true ∧
    gives (.pacingPeriod 0) (pursuing 18 [⟨.pump 0, 2, 4, 900⟩]) (fun t => (t.train 0).speed == 600) := by decide +kernel
theorem test_blanket_in_a_pacing_period :
    gives (.pacingPeriod 0) ((plant.setPoint 8 (analog 401)).setTrain 0 { trainAs .running with blanketRun := 2, speed := 500 })
      (fun t => (t.train 0).boost && (t.entry 85).condition && (t.train 0).rasSetpoint == some 720) ∧
    gives (.pacingPeriod 0) ((plant.setPoint 8 (analog 349)).setTrain 0 { trainAs .off with boost := true })
      (fun t => !(t.train 0).boost && (t.train 0).blanketRun == 0) ∧
    gives (.pacingPeriod 0) ((plant.setPoint 8 (analog 350)).setTrain 0 { trainAs .off with boost := true })
      (fun t => (t.train 0).boost) := by decide +kernel
theorem test_pump_events : gives (.blanketBoostOn 0) plant (fun t => (t.train 0).boost && (t.entry 85).condition) ∧
    gives (.pumpRunConfirmTimeout 0) (withPump (.starting .runConfirm)) (fun t => (t.train 0).state == .tripped &&
      (t.entry 84).condition) ∧
    gives (.pumpFoundRunning 0) plant (fun t => (t.train 0).state == .running && (t.train 0).speed == 200) ∧
    gives (.rasLimited 0) (plant.setTrain 0 { trainAs .running with increaseTarget := some 600, speed := 500 })
      (fun t => (t.entry 86).condition && (t.train 0).speed == 500) := by decide +kernel
theorem test_storm_set : answers (.stormSet 10 storm0) fielded 0x3A (storm0.wire ++ [.u8 0, .u8 0])
      (fun t => t.plant.timer == some 60) ∧
    refuses (.stormSet 10 { storm0 with stormOut := 2000 }) plant 0x3A .range ∧
    refuses (.stormSet 10 { storm0 with influentPoint := 9 }) plant 0x3A .conflict := by decide +kernel
/-- The plant record in this state with this run count, the influent at this flow. -/
def storming (storm : Bool) (runCount : Nat) (flow : Int) : State :=
  { plant.setPoint 3 (analog flow) with plant := { plant.plant with storm := storm, runCount := runCount } }
theorem test_storm_evaluation : (storming false 0 2001).Ready ∧ (storming false 0 2001).goodValue 3 = some 2001 ∧
    gives .stormEvaluation (storming false 0 2000) (fun t => t.plant.runCount == 0 && !t.plant.storm) ∧
    gives .stormEvaluation (storming false 0 2001) (fun t => t.plant.runCount == 1 && !t.plant.storm) ∧
    gives .stormEvaluation (storming false 1 2001) (fun t => t.plant.storm && (t.entry 103).condition) ∧
    gives .stormEvaluation (storming true 0 1499) (fun t => !t.plant.storm) ∧
    gives .stormEvaluation (storming true 0 1500) (fun t => t.plant.storm) :=
  ⟨ready_of_alarms plant_alarms_follow rfl rfl rfl rfl, by decide +kernel⟩
theorem test_storm_entry : let s := withLane { laneAs .parked with demand := 0 }
    s.Ready ∧ s.plant.force ≠ .normal ∧ (s.lane 0).mode = .parked ∧ lane0.wakeOnStorm = 1 ∧
    gives .stormEntry s (fun t => t.plant.storm && (t.lane 0).woken && (t.lane 0).mode == .adopting .auto) ∧
    answers (.stormForce 2 1) s 0x3B [.u8 1, .u8 1] (fun t => t.plant.storm && t.plant.force == .storm) ∧ answers (.stormForce 2 2) s 0x3B [.u8 2, .u8 0] ∧
    answers (.stormForce 2 0) s 0x3B [.u8 0, .u8 0] ∧ refuses (.stormForce 2 3) s 0x3B .range :=
  ⟨ready_of_alarms plant_alarms_follow rfl rfl rfl rfl, by decide +kernel⟩
theorem test_storm_exit : let s := { withLane { laneAs .auto with woken := true } with
      plant := { plant.plant with storm := true } }
    s.plant.force ≠ .storm ∧ (s.lane 0).woken = true ∧ lane0.returnToPark = 1 ∧
    gives .stormExit s (fun t => !t.plant.storm && (t.lane 0).mode == .parked && t.grant 0 == 0) ∧
    answers (.stormForce 2 2) s 0x3B [.u8 2, .u8 0] (fun t => !t.plant.storm && t.plant.force == .normal) := by
  decide +kernel
theorem test_train_set_moves_its_slots : let f := { train0 with runSlot := 40 }
    pumpSlots 0 train0 ≠ pumpSlots 0 f ∧ gives (.trainSet 34 0 f) plant (fun t =>
      (t.slot 40).claimant == .pumpRun 0 && (t.slot 4).claimant == .none && !(t.slot 4).valid) ∧
    refuses (.trainSet 34 0 { train0 with runSlot := 3 }) plant 0x38 .conflict ∧
    refuses (.trainSet 34 0 { train0 with runPoint := 0 }) plant 0x38 .conflict ∧
    refuses (.trainSet 34 0 { train0 with influentPoint := 9 }) plant 0x38 .conflict ∧
    refuses (.trainSet 34 0 { train0 with rasFlowPoint := 9 }) plant 0x38 .conflict ∧
    refuses (.trainSet 34 0 { train0 with blanketPoint := some 9 }) plant 0x38 .conflict ∧
    gives (.trainSet 34 0 { train0 with minSpeed := 210, limitedDelay := 50 }) plant
      (fun t => (t.train 0).minSpeed == 200 && (t.train 0).limitedDelay == 60) := by decide +kernel
theorem test_pump_commands_refused : refuses (.pumpStart 3 1) plant 0x39 .unconfigured ∧
    refuses (.pumpStop 3 1) plant 0x39 .unconfigured ∧ refuses (.pumpReset 3 1) plant 0x39 .unconfigured ∧
    refuses (.pumpLockout 3 1) plant 0x39 .unconfigured ∧ refuses (.pumpUnlock 3 1) plant 0x39 .unconfigured ∧
    refuses (.pumpLockout 3 0) (withPump .adopting) 0x39 .state ∧
    refuses (.pumpLockout 3 0) (withPump (.starting .waitPower)) 0x39 .state ∧
    refuses (.pumpLockout 3 0) (withPump .running) 0x39 .state ∧
    refuses (.pumpLockout 3 0) (withPump .lockedOut) 0x39 .state := by decide +kernel
theorem test_pacing_fields_in_force : let f := some { train0 with minSpeed := 210, limitedDelay := 50 }
    gives (.pacingPeriod 0) (plant.setTrain 0 { trainAs .off with config := f })
      (fun t => (t.train 0).minSpeed == 210 && (t.train 0).limitedDelay == 50) ∧
    gives (.pacingPeriod 0) (plant.setTrain 0 { trainAs (.starting .runConfirm) with config := f, speed := 200 })
      (fun t => (t.train 0).minSpeed == 210 && (t.train 0).startSpeed == 200 && (t.train 0).speed == 200) ∧
    gives (.pacingPeriod 0) ((withMode .parked).setTrain 0 { trainAs .running with
        config := some { train0 with blanketPoint := none }, speed := 500 })
      (fun t => (t.train 0).speed == 200 && (t.train 0).increaseTarget == none) := by decide +kernel
theorem test_pump_under_the_cap : let s := shed.setTrain 0 { trainAs (.starting .runConfirm) with
      speed := 200, power := .pump, minSpeed := 300 }
    s.plant.pumpCap = true ∧ (s.train 0).speed ≠ (s.train 0).minSpeed ∧ s.budget.waitOf (.pump 0) = none ∧
    ((s.testPump 0 (some true)).train 0).speed = 300 ∧ ((s.testPump 0 (some true)).slot 5).value = 300 ∧
    (s.testPump 0 (some true)).budget.commitOf (.pump 0) = some ⟨.pump 0, .pump, 9, 910⟩ ∧
    gives (.pacingPeriod 0) (shed.setTrain 0 { trainAs .running with
      config := some { train0 with blanketPoint := none, minSpeed := 300 }, speed := 200, power := .pump })
      (fun t => (t.train 0).speed == 200 && (t.train 0).increaseTarget == none && t.budget == shed.budget) := by decide +kernel
/-- Pump 0's run and speed slots carry these values, valid. -/
def pumps (t : State) (run speed : Nat) : Bool :=
  t.slot 4 == ⟨.pumpRun 0, run, true⟩ && t.slot 5 == ⟨.pumpSpeed 0, speed, true⟩
theorem test_pump_outputs : gives (.pumpStart 3 0) plant (fun t => pumps t 1 200) ∧
    gives (.pumpStop 3 0) (withPump .running) (fun t => pumps t 0 0) ∧
    gives (.pumpLockout 3 0) plant (fun t => pumps t 0 0) ∧
    gives (.pumpFoundRunning 0) plant (fun t => pumps t 1 200) ∧
    gives (.pumpRunConfirmTimeout 0) (withPump (.starting .runConfirm)) (fun t => pumps t 0 0) := by decide +kernel
theorem test_pump_frame : let s := plant.setTrain 0 { trainAs (.starting .runConfirm) with stepTimer := some 2, power := .pump }
    onHub 0 train0.runPoint = true ∧ ((State.pumpFrame 0 s 0 s).train 0).stepTimer = some 1 ∧
    ((State.pumpFrame 0 plant 0 s).train 0).stepTimer = some 2 ∧
    ((State.pumpFrame 0 s 0 (s.setTrain 0 { s.train 0 with stepTimer := some 1 })).train 0).state = .tripped ∧
    ((State.pumpFrame 0 s 0 (s.setPoint 10 (discrete 1))).train 0).state = .running ∧ State.pumpFrame 1 s 0 s = s := by
  decide +kernel
theorem test_pump_feedback :
    (((withPump .adopting).testPump 0 (some true)).train 0).state = .running ∧
    (((withPump .adopting).testPump 0 (some false)).train 0).state = .off ∧
    ((plant.testPump 0 (some true)).train 0).foundRunning = 1 ∧
    (((plant.setTrain 0 { trainAs .off with foundRunning := 4 }).testPump 0 (some true)).train 0).state = .running ∧
    ((plant.testPump 0 none).train 0).foundRunning = 0 ∧
    (((withPump .running).testPump 0 (some false)).train 0).state = .tripped ∧
    (((withPump .running).testPump 0 (some false)).entry 84).condition = true ∧
    (withPump .running).testPump 0 none = withPump .running := by decide +kernel
theorem test_storm_counts_down : let s (flow : Int) := { storming true 0 flow with plant := { (storming true 0 flow).plant with
      config := some { storm0 with outCount := 2 }, runCount := 0 } }
    gives .stormEvaluation (s 1499) (fun t => t.plant.storm && t.plant.runCount == 1) ∧
    gives .stormEvaluation (storming true 1 1500) (fun t => t.plant.storm && t.plant.runCount == 0) := by decide +kernel

/-! ### Alarms -/

theorem test_alarm_set : answers (.alarmSet 7 2 4 600 600) plant 0x40 [.u8 4, .u16 600, .u16 600, .u8 1] ∧
    plant.alarm.flagOf 7 = true ∧ answers (.alarmSet 7 7 1 0 0) plant 0x40 [.u8 1, .u16 0, .u16 0, .u8 7] ∧
    (plant.entry 96).condition = true ∧ plant.alarm.flagOf 96 = false ∧
    answers (.alarmSet 7 96 1 0 0) plant 0x40 [.u8 1, .u16 0, .u16 0, .u8 3] (fun t => t.alarm.horn) ∧
    answers (.alarmSet 7 96 1 1 0) plant 0x40 [.u8 1, .u16 1, .u16 0, .u8 2] ∧
    answers (.alarmSet 7 2 0 0 0) (withEntry (alarmAs .activeAck true)) 0x40 [.u8 0, .u16 0, .u16 0, .u8 0] ∧
    answers (.alarmSet 7 2 1 0 0) (withEntry (alarmAs .activeAck true)) 0x40 [.u8 1, .u16 0, .u16 0, .u8 4] ∧
    refuses (.alarmSet 7 2 5 0 0) plant 0x40 .range ∧ refuses (.alarmSet 7 2 1 601 0) plant 0x40 .range ∧
    refuses (.alarmSet 7 2 1 0 601) plant 0x40 .range := by decide +kernel
theorem test_escalation_set : answers (.escalationSet 4 60 4) (withEntry (alarmAs .activeUnack true)) 0x41 [.u16 60, .u8 4]
      (fun t => (t.entry 2).escTimer == some 60) ∧
    answers (.escalationSet 4 7200 0) (withEntry { alarmAs .activeUnack true with escTimer := some 9 }) 0x41
      [.u16 7200, .u8 0] (fun t => (t.entry 2).escTimer == none) ∧
    refuses (.escalationSet 4 59 0) plant 0x41 .range ∧ refuses (.escalationSet 4 7201 0) plant 0x41 .range ∧
    refuses (.escalationSet 4 60 5) plant 0x41 .range ∧
    gives (.escalationSet 4 60 4) plant (fun t =>
      t.alarm == { plant.alarm with escTime := 60, escThreshold := 4, entries := t.alarm.entries }) := by decide +kernel
/-- Entry 2 unacknowledged at priority 3, the threshold 2, its escalation timer as given. -/
def escalating (time : Option Nat) : State :=
  let s := withEntry { alarmAs .activeUnack true with priority := 3, escTimer := time }
  { s with alarm := { s.alarm with escThreshold := 2 } }
theorem test_settings_retest_escalation :
    gives (.alarmSet 7 2 2 0 0) (escalating none) (fun t => (t.entry 2).escTimer == some 900) ∧
    gives (.alarmSet 7 2 3 0 0) (escalating none) (fun t => (t.entry 2).escTimer == none) ∧
    gives (.alarmSet 7 2 2 0 0) (escalating (some 9)) (fun t => (t.entry 2).escTimer == some 9) ∧
    gives (.escalationSet 4 60 4) (escalating (some 9)) (fun t => (t.entry 2).escTimer == some 9) := by decide +kernel
theorem test_ack : (withEntry (alarmAs .activeUnack true)).Ready ∧
    answers (.alarmAck 2 2) (withEntry (alarmAs .activeUnack true)) 0x42 [.u8 4]
      (fun t => t.alarm.history == [⟨2, .acked, 0, 1000⟩] && !t.alarm.horn) ∧
    answers (.alarmAck 2 2) (withEntry (alarmAs .clearedUnack false)) 0x42 [.u8 1] ∧
    refuses (.alarmAck 2 2) (withEntry (alarmAs .normal false)) 0x42 .state ∧
    gives (.alarmAck 2 255) (withEntry (alarmAs .activeUnack true)) (fun t => (t.entry 2).state == .activeAck) := by
  decide +kernel
theorem test_shelve : answers (.alarmShelve 6 2 86400) (withEntry (alarmAs .activeAck true)) 0x43 [.u8 6, .u32 86400] ∧
    answers (.alarmShelve 6 2 1) (withEntry (alarmAs .normal false)) 0x43 [.u8 6, .u32 1] ∧
    refuses (.alarmShelve 6 2 0) plant 0x43 .range ∧ refuses (.alarmShelve 6 2 86401) plant 0x43 .range ∧
    refuses (.alarmShelve 6 2 1) plant 0x43 .state ∧
    refuses (.alarmShelve 6 2 1) (withEntry (alarmAs .suppressed false)) 0x43 .state ∧
    refuses (.alarmUnshelve 2 2) plant 0x44 .state ∧
    answers (.alarmUnshelve 2 2) (withEntry (alarmAs .shelved true)) 0x44 [.u8 3] (fun t => (t.entry 2).raises == 1) ∧
    answers (.alarmUnshelve 2 2) (withEntry (alarmAs .shelved false)) 0x44 [.u8 1] := by decide +kernel
theorem test_lines_in_words : let s := withEntry (alarmAs .activeUnack true)
    s.Ready ∧ s.alarm.horn = true ∧ s.alarm.beacon = .steady ∧
    ({ s.alarm with silenced := some 2 }).refresh.horn = false ∧ ({ s.alarm with silenced := some 3 }).refresh.horn = true ∧
    (withEntry { alarmAs .clearedUnack false with stage := 1 }).alarm.beacon = .flashing ∧
    (withEntry { alarmAs .clearedUnack false with stage := 2 }).alarm.dialOut = true := by decide +kernel
theorem test_active_list_order : let u := (((withEntry (alarmAs .activeAck true)).setEntry 7 (alarmAs .clearedUnack false)).setEntry 9
      { alarmAs .activeUnack true with priority := 1, stamp := 8 }).alarm
    u.activeList = [9, 2, 7] ∧ ({ u with entries := u.entries.set 2 { u.entries[(2 : AlarmId)] with stamp := 1 } }).activeList =
      [9, 7, 2] := by decide +kernel
/-- An alarm history of `n` records. -/
def recorded (n : Nat) (wrapped : Bool) : State := { plant with alarm := { plant.alarm with
  history := List.replicate n ⟨3, .raised, 0, 5⟩, wrapped := wrapped } }
theorem test_history_full : ((recorded 127 false).record 2 .acked).alarm.history.length = 128 ∧
    ((recorded 127 false).record 2 .acked).alarm.wrapped = false ∧
    ((recorded 128 false).record 2 .acked).alarm.history = List.replicate 127 ⟨3, .raised, 0, 5⟩ ++ [⟨2, .acked, 0, 1000⟩] ∧
    ((recorded 128 false).record 2 .acked).notices = plant.notices ++ [⟨.alarm, 4#8, 1000⟩] ∧
    ((recorded 128 true).record 2 .acked).notices = plant.notices := by decide +kernel
/-- Entries 2, 7 and 9 unacknowledged or acknowledged, 7 the most urgent, 2 before 9 by its stamp, after this history. -/
def unacknowledged (n : Nat) : State :=
  (((({ recorded n false with notices := [] }).setEntry 2 { alarmAs .clearedUnack false with stamp := 8 }).setEntry 7
    { alarmAs .activeUnack true with priority := 1, stamp := 9, stage := 2 }).setEntry 9
    { alarmAs .activeUnack true with stamp := 9 }).setEntry 11 (alarmAs .activeAck true) |>.refresh
theorem test_ack_all : (unacknowledged 126).alarm.activeList = [7, 11, 2, 9] ∧
    answers (.alarmAck 2 255) (unacknowledged 126) 0x42 [.u8 3] (fun t => t.alarm.wrapped &&
      t.alarm.history == List.replicate 125 ⟨3, .raised, 0, 5⟩ ++
        [⟨7, .acked, 0, 1000⟩, ⟨2, .acked, 0, 1000⟩, ⟨9, .acked, 0, 1000⟩] &&
      t.notices == [⟨.alarm, 4#8, 1000⟩] && (t.entry 7).stage == 0) ∧
    answers (.alarmAck 2 255) (unacknowledged 125) 0x42 [.u8 3] (fun t => !t.alarm.wrapped &&
      t.alarm.history.length == 128) ∧ answers (.alarmAck 2 255) plant 0x42 [.u8 0] := by decide +kernel
/-- Entry 2 in this state, with these delays, the opposite condition posted to it. -/
def posted (x : EntryState) (condition : Bool) (onDelay offDelay : Nat) : Entry :=
  ((withEntry { alarmAs x condition with onDelay := onDelay, offDelay := offDelay, clearTimer := none }).post 2 (!condition)).entry 2
theorem test_posted_condition : (posted .normal false 0 0).state = .activeUnack ∧ (posted .normal false 0 0).stamp = 1000 ∧
    ((posted .normal false 1 0).state, (posted .normal false 1 0).onTimer) = (.onDelay, some 1) ∧
    ((posted .clearedUnack false 9 0).state, (posted .clearedUnack false 9 0).stamp) = (.activeUnack, 0) ∧
    (posted .onDelay true 9 0).state = .normal ∧ (posted .activeUnack true 0 0).state = .clearedUnack ∧
    (posted .activeAck true 0 0).state = .normal ∧
    ((posted .activeAck true 0 1).state, (posted .activeAck true 0 1).clearTimer) = (.activeAck, some 1) ∧
    posted .shelved false 0 0 = alarmAs .shelved true ∧ posted .suppressed true 0 0 = alarmAs .suppressed false := by
  decide +kernel
theorem test_suppression_flag : let s := withEntry { alarmAs .activeUnack true with stage := 1, escTimer := some 3 }
    let t := s.suppressLane 0 true
    s.alarm.laneFlags[(0 : LaneId)] = false ∧ t.alarm.laneFlags[(0 : LaneId)] = true ∧
    t.entry 2 = alarmAs .suppressed true ∧ t.entry 3 = s.entry 3 ∧ (t.suppressLane 0 false).entry 2 =
      { alarmAs .activeUnack true with stamp := 1000, raises := 1 } ∧
    ((t.setEntry 2 { t.entry 2 with onDelay := 1 }).suppressLane 0 false).entry 2 =
      { alarmAs .onDelay true with onDelay := 1, onTimer := some 1 } := by decide +kernel
theorem test_silence : let s := withEntry (alarmAs .activeUnack true)
    s.Ready ∧ (s.entry 2).state = .activeUnack ∧ s.alarm.horn = true ∧
    (∀ e, (s.entry e).state = .activeUnack → (s.entry 2).priority ≤ (s.entry e).priority) ∧
    answers (.silence 1) s 0x45 [.u8 2, .u8 0] (fun t => !t.alarm.horn && t.alarm.silenced == some 2) ∧
    (∀ e, (plant.entry e).state ≠ .activeUnack) ∧ gives (.silence 1) plant (fun t => t.alarm.silenced == none) := by
  decide +kernel
/-- Three history records and the wrap flag. -/
def storied : State := { plant with alarm := { plant.alarm with
  history := [⟨2, .raised, 0, 5⟩, ⟨2, .acked, 0, 6⟩, ⟨2, .returned, 0, 7⟩], wrapped := true } }
theorem test_history_read : answers (.historyRead 2 1) storied 0x47
      [.u8 1, .u8 2, .u8 0, .u8 0, .u8 0, .u32 5, .u8 1, .u8 2] (fun t => !t.alarm.wrapped && t.alarm.history.length == 2) ∧
    gives (.historyRead 2 8) storied (fun t => t.alarm.history.isEmpty) ∧
    refuses (.historyRead 2 0) storied 0x47 .range ∧ refuses (.historyRead 2 9) storied 0x47 .range := by decide +kernel
theorem test_alarm_timers : gives (.onDelayEnd 2) (withEntry { alarmAs .onDelay true with onTimer := some 1 })
      (fun t => (t.entry 2).state == .activeUnack && t.alarm.history == [⟨2, .raised, 0, 1000⟩]) ∧
    gives (.clearingEnd 2) (withEntry { alarmAs .activeAck false with clearTimer := some 1 })
      (fun t => (t.entry 2).state == .normal) ∧
    gives (.clearingEnd 2) (withEntry { alarmAs .activeUnack false with clearTimer := some 1 })
      (fun t => (t.entry 2).state == .clearedUnack) ∧
    gives (.shelfEnd 2) (withEntry { alarmAs .shelved true with shelf := some 1 })
      (fun t => (t.entry 2).state == .activeUnack) := by decide +kernel
theorem test_escalation : gives (.escalation 2) (withEntry { alarmAs .activeUnack true with escTimer := some 1 })
      (fun t => (t.entry 2).stage == 1 && (t.entry 2).escTimer == some 900 && t.alarm.beacon == .flashing &&
        !t.alarm.dialOut) ∧
    gives (.escalation 2) (withEntry { alarmAs .activeUnack true with escTimer := some 1, stage := 1 })
      (fun t => (t.entry 2).stage == 2 && (t.entry 2).escTimer == none && t.alarm.dialOut) := by decide +kernel

/-! ### Capture and restart -/

theorem test_capture_requests : answers (.captureSet 10 0 capture0) plant 0x50 capture0.wire ∧
    refuses (.captureSet 10 0 { capture0 with interval := 0 }) plant 0x50 .range ∧
    refuses (.captureSet 10 0 capture0) (withChannel .primed [] 0) 0x50 .state ∧
    refuses (.captureArm 2 0) plant 0x51 .unconfigured ∧
    answers (.captureArm 2 0) (withChannel .idle [] 0) 0x51 [.u8 1] (fun t => (t.channel 0).state == .primed) ∧
    refuses (.captureArm 2 0) (withChannel .primed [] 0) 0x51 .state ∧
    answers (.captureRelease 2 0) (withChannel .frozen [⟨1, .good⟩] 0) 0x54 [.u8 0]
      (fun t => (t.channel 0).ring.isEmpty) ∧
    refuses (.captureRelease 2 0) plant 0x54 .state := by decide +kernel
theorem test_capture_trigger : answers (.captureTrigger 2 0) (withChannel .primed [⟨1, .good⟩] 0) 0x52 [.u8 1, .u8 0]
      (fun t => (t.channel 0).trigger == some ⟨.host, 1000, 1⟩ && (t.channel 0).postRemaining == 254) ∧
    answers (.captureTrigger 2 0) (withChannel .frozen [] 0) 0x52 [.u8 1, .u8 2] (fun t => (t.channel 0).missed) ∧
    answers (.captureTrigger 2 0) (withChannel .triggered [] 9) 0x52 [.u8 1, .u8 1] ∧
    answers (.captureTrigger 2 0) plant 0x52 [.u8 1, .u8 3] ∧
    gives (.captureTrigger 2 255) (withChannel .primed [] 0) (fun t => (t.channel 0).state == .triggered) := by
  decide +kernel
theorem test_other_triggers : let f := { capture0 with stormTrigger := 1, matchEntry := 10, matchMask := 11 }
    let s (x : CaptureState) (g : CaptureFields) := (withEntry { alarmAs .onDelay true with onTimer := some 1 }).setChannel 0
      { Channel.cold with configured := true, fields := g, state := x, ring := [⟨1, .good⟩] }
    -- entry 2 against entry 10 in the bits of the mask: bit 3 differs; without it they agree
    gives (.onDelayEnd 2) (s .primed f) (fun t => (t.channel 0).state == .primed) ∧
    gives (.onDelayEnd 2) (s .primed { f with matchMask := 3 }) (fun t =>
      (t.channel 0).trigger == some ⟨.alarm 2, 1000, 1⟩ && (t.channel 0).postRemaining == 254) ∧
    gives (.onDelayEnd 2) (s .frozen { f with matchMask := 3 }) (fun t => (t.channel 0).missed) ∧
    gives (.onDelayEnd 2) (s .idle { f with matchMask := 3 }) (fun t => (t.channel 0).state == .idle) ∧
    -- storm entry
    gives .stormEntry (s .primed { f with matchMask := 0 }) (fun t =>
      (t.channel 0).trigger == some ⟨.storm, 1000, 1⟩) ∧
    gives .stormEntry (s .primed { f with stormTrigger := 0 }) (fun t => (t.channel 0).state == .primed) := by decide +kernel
theorem test_capture_sample :
    gives (.captureSample 0) (withChannel .primed [⟨1, .good⟩, ⟨2, .good⟩] 0)
      (fun t => (t.channel 0).ring == [⟨2, .good⟩, ⟨180, .good⟩]) ∧
    gives (.captureSample 0) (withChannel .triggered [] 2) (fun t => (t.channel 0).postRemaining == 1) ∧
    gives (.captureSample 0) (withChannel .triggered [] 1) (fun t => (t.channel 0).state == .frozen && t.attn) ∧
    gives (.captureFrozen 0) (withChannel .triggered [] 1) (fun t => (t.channel 0).state == .frozen &&
      (t.channel 0).ring == [⟨180, .good⟩]) := by decide +kernel
theorem test_restart : plant.Ready ∧ answers (.restart 1) plant 0x63 [] (fun t => t.restarting) :=
  ⟨ready_of_alarms plant_alarms_follow rfl rfl rfl rfl, by decide +kernel⟩
theorem test_warm_restart : let s := { running with restarting := true, plant := { running.plant with force := .storm } }
    s.held = false ∧ s.restarting = true ∧ gives (.silence 1) s (fun t => t.reply == none) ∧
    gives .warmRestart s (fun t => !t.restarting && t.notices == [⟨.host, 2#8, 1000⟩] && t.plant.storm &&
      (t.lane 0).mode == .adopting .auto && (t.blower 0).state == .adopting && t.online.isEmpty &&
      t.budget.commits.isEmpty && t.grant 0 == 0) := by decide +kernel
/-- A warm restart under FORCE_STORM with lane 0 in a mode, blower 0 starting and channel 0 FROZEN. -/
def restarted (m : LaneMode) : State :=
  let s := (starting .ramp 1).setLane 0 { laneAs m with sup := { Supervision.cold with moving := true } }
  let s := s.setChannel 0 { Channel.cold with configured := true, fields := { capture0 with stormTrigger := 1 },
                                              state := .frozen, ring := [⟨5, .good⟩] }
  { s with restarting := true, plant := { s.plant with force := .storm },
           alarm := { s.alarm with laneFlags := s.alarm.laneFlags.set 0 (m == .parked) } }
theorem test_warm_fields : (restarted .auto).SlotsClaimed ∧ (restarted .parked).wokenByRestart 0 ∧
    gives .warmRestart (restarted .auto) (fun t => (t.lane 0).mode == .adopting .auto && !(t.lane 0).woken &&
      !(t.lane 0).sup.moving && t.air.queue == [⟨0, 100, 1000, false⟩] && t.air.shortfall == some 180 && t.air.surplus == none &&
      (t.blower 0).result == some ⟨1, .none, 0, .aborted⟩ && (t.train 0).minSpeed == 200 && (t.train 0).timer == some 30 &&
      (t.channel 0).ring == [⟨5, .good⟩] && (t.channel 0).missed && !(t.slot 0).valid && !(t.slot 1).valid) ∧
    gives .warmRestart (restarted .parked) (fun t => (t.lane 0).mode == .adopting .auto && (t.lane 0).woken &&
      t.air.queue == [⟨0, 100, 1000, false⟩] && !t.alarm.laneFlags[0]) := by decide +kernel
theorem test_warm_alarms : let s := { (withEntry (alarmAs .activeUnack true)).setBlower 0 (blowerAs .tripped) with restarting := true }
    gives .warmRestart s (fun t => (t.entry 2).state == .normal && !(t.entry 2).condition && (t.entry 61).condition &&
      t.header.setpoint == 600 && t.header.timer == some 5 && t.alarm.silenced == none && !t.alarm.horn &&
      (t.entry 96).condition == (s.entry 96).condition) ∧
    gives .warmRestart { running with restarting := true } (fun t =>
      allEntries.all (fun e => (t.entry e).state != .activeUnack)) := by decide +kernel

end Sys2Proof.Tests
end

section
/-! The air allocator's freeze (R54, R55): serving leaves the freeze as it stands, and AIR_FREEZE extends or ends it. -/

namespace Sys2Proof.Machine

/-! ### Serving keeps the freeze -/

@[simp] theorem State.freeze_dropEntry (s : State) (l : LaneId) : (s.dropEntry l).air.freeze = s.air.freeze := by
  unfold State.dropEntry
  cases s.air.entryOf l with
  | none => rfl
  | some e =>
    cases starved : e.starved with
    | false => simp [starved]
    | true => simp [starved, (SameAir.post ..).1]

/-- Serving grants and takes entries from the queue; whether and how long it is frozen it does not touch (R50). -/
theorem State.freeze_serveSteps (fuel : Nat) (s : State) : (s.serveSteps fuel).air.freeze = s.air.freeze := by
  induction fuel generalizing s with
  | zero => rfl
  | succ fuel ih =>
    unfold State.serveSteps
    cases s.air.queue with
    | nil => rfl
    | cons e rest =>
      dsimp only
      split
      · rw [ih, (SameAir.completeAdoption ..).1]
        split
        · exact State.freeze_dropEntry ..
        · rfl
      · rfl

@[simp] theorem State.freeze_serve (s : State) : s.serve.air.freeze = s.air.freeze := s.freeze_serveSteps _

@[simp] theorem State.freeze_endFreeze (s : State) : s.endFreeze.air.freeze = .none := State.freeze_serve _

/-! ### A claim of a freeze (R54) -/

theorem State.claimFreeze_seconds {n : Nat} (low : 1 ≤ n) (high : n ≤ 65534) (s : State) :
    s.claimFreeze n = { s with air := { s.air with freeze := s.air.freeze.larger (.seconds n) } } := by
  have nonzero : n ≠ 0 := by omega
  have finite : n ≠ 65535 := by omega
  simp [State.claimFreeze, nonzero, finite]

@[simp] theorem Freeze.larger_indefinite (f : Freeze) : f.larger .indefinite = .indefinite := by cases f <;> rfl

theorem State.claimFreeze_indefinite (s : State) :
    s.claimFreeze 65535 = { s with air := { s.air with freeze := .indefinite } } := by
  simp [State.claimFreeze]

/-! ### AIR_FREEZE (R55) -/

theorem exec_airFreeze (len n : Nat) (s : State) : exec (.airFreeze len n) s = (airFreezeRequest len n).receive s := rfl

/-- The length of AIR_FREEZE's frame is the one its field requires, whatever the number of seconds. -/
theorem airFreezeRequest_fits (n : Nat) : (airFreezeRequest 3 n).fits = true := rfl

theorem airFreezeRequest_end (s : State) :
    (airFreezeRequest 3 0).owner s = .take s.endFreeze [.u16 0] := by
  show Verdict.take s.endFreeze [s.endFreeze.air.freeze.wire] = _
  rw [State.freeze_endFreeze]
  rfl

theorem airFreezeRequest_claim {n : Nat} (low : 1 ≤ n) (high : n ≤ 65535) (s : State) :
    (airFreezeRequest 3 n).owner s = .take (s.claimFreeze n) [(s.claimFreeze n).air.freeze.wire] := by
  have inRange : ¬ 65535 < n := by omega
  have nonzero : n ≠ 0 := by omega
  simp [airFreezeRequest, request, requestIf, inRange, nonzero]

/-- A claim touches neither the notices nor the alarms, so the lines stay as they follow already. -/
theorem airFreeze_claims {s : State} (hears : s.Hears) {n : Nat} (low : 1 ≤ n) (high : n ≤ 65535) :
    Answers (.airFreeze 3 n) s (s.claimFreeze n) 0x21 [(s.claimFreeze n).air.freeze.wire] := by
  obtain ⟨held, -⟩ := hears.ready.free
  have runs := Request.receive_taken hears.listening rfl (airFreezeRequest_fits n) (airFreezeRequest_claim low high s)
  exact (exec_airFreeze 3 n s).trans
    (runs.trans (congrArg Host.Outcome.next (finish_eq held hears.ready.2 rfl rfl rfl rfl)))

/-- A length of 0 ends the freeze, and serving may then grant, complete adoptions and post; the lines follow. -/
theorem airFreeze_ends {s : State} (hears : s.Hears) :
    Runs (.airFreeze 3 0) s (finish s { s.endFreeze with reply := taken 0x21 [.u16 0], rx := [] }) :=
  (exec_airFreeze 3 0 s).trans
    (Request.receive_taken hears.listening rfl (airFreezeRequest_fits 0) (airFreezeRequest_end s))

end Sys2Proof.Machine

section
open Sys2Proof Sys2Proof.Machine

/-- Settles O31: a length from 1 on is a freeze claim, which keeps the larger freeze; 0 ends the freeze and serves, and
serving keeps it ended. -/
theorem airFreezeTaken : Obligations.AirFreezeTaken := by
  intro s hears
  refine ⟨fun n low high => ⟨s.air.freeze.larger (.seconds n), ?answers, ?none, ?seconds, ?indefinite⟩,
    ?forever, ?ended⟩
  case answers =>
    have answers := airFreeze_claims hears low (by omega)
    rwa [State.claimFreeze_seconds low high] at answers
  case none => intro unfrozen; rw [unfrozen]; rfl
  case seconds => intro m frozen; rw [frozen]; rfl
  case indefinite => intro frozen; rw [frozen]; rfl
  case forever =>
    have answers := airFreeze_claims hears (n := 65535) (by omega) (by omega)
    rwa [State.claimFreeze_indefinite] at answers
  case ended =>
    have frame : OnlyAir s { s.endFreeze with reply := taken 0x21 [.u16 0], rx := [] } :=
      (OnlyAir.refl s).endFreeze.trans rfl
    exact ⟨_, airFreeze_ends hears, State.freeze_endFreeze s, rfl, finish_air frame, rfl⟩

end
end

section
/-! The history queue (R147, R148): HISTORY_READ drains it, oldest first, and the lines do not depend on it. -/

namespace Sys2Proof.Machine

/-! ### Draining the history -/

/-- The lines and the silenced level follow from the notices and the entries (R143 to R145, R186): reading history records
out before or after they are worked out is the same. -/
theorem finish_drainHistory (s t : State) (count : Nat) :
    finish s (t.drainHistory count) = (finish s t).drainHistory count := rfl

/-- Where the lines follow already, reading history records out and replying leaves them as they are. -/
theorem finish_drained {s : State} (ready : s.Ready) (count : Nat) (reply : Option Reply) :
    finish s { s.drainHistory count with reply := reply, rx := [] } =
      { s.drainHistory count with reply := reply, rx := [] } := by
  have lines : finish s { s with reply := reply, rx := [] } = { s with reply := reply, rx := [] } :=
    finish_eq ready.free.1 ready.2 rfl rfl rfl rfl
  calc finish s { s.drainHistory count with reply := reply, rx := [] }
      = (finish s { s with reply := reply, rx := [] }).drainHistory count :=
        finish_drainHistory s { s with reply := reply, rx := [] } count
    _ = { s.drainHistory count with reply := reply, rx := [] } := congrArg (State.drainHistory · count) lines

/-! ### HISTORY_READ (R148) -/

theorem exec_historyRead (len count : Nat) (s : State) :
    exec (.historyRead len count) s = (historyReadRequest len count).receive s := rfl

/-- The length of HISTORY_READ's frame is the one its field requires, whatever the count. -/
theorem historyReadRequest_fits (count : Nat) : (historyReadRequest 2 count).fits = true := rfl

theorem historyReadRequest_refused {len count : Nat} (out : count = 0 ∨ 8 < count) (s : State) :
    (historyReadRequest len count).owner s = .refuse .range := by
  have outside : within [(1, count, 8)] = false := by simp [within]; omega
  simp [historyReadRequest, request, requestIf, outside]

theorem historyReadRequest_taken {len count : Nat} (low : 1 ≤ count) (high : count ≤ 8) (s : State) :
    (historyReadRequest len count).owner s = .take (s.drainHistory count)
      (wireList ((s.alarm.history.take count).map HistoryRecord.wire) ++
        [.u8 (if s.alarm.wrapped then 1 else 0), .u8 (s.alarm.history.length - count)]) := by
  have inside : within [(1, count, 8)] = true := by simp [within, low, high]
  simp [historyReadRequest, request, requestIf, inside, flag]

end Sys2Proof.Machine

section
open Sys2Proof Sys2Proof.Machine

/-- Settles O57: outside 1 to 8 the owner refuses; within, it drains the queue, and the lines, which follow from the
entries and the notices alone, need no change. -/
theorem historyReadDrains : Obligations.HistoryReadDrains := by
  intro s count hears
  constructor
  case left =>
    intro out
    exact (exec_historyRead 2 count s).trans
      (Request.receive_refused hears.listening rfl (historyReadRequest_fits count) (historyReadRequest_refused out s))
  case right =>
    intro low high
    have runs := Request.receive_taken hears.listening rfl (historyReadRequest_fits count)
      (historyReadRequest_taken low high s)
    exact (exec_historyRead 2 count s).trans
      (runs.trans (congrArg Host.Outcome.next (finish_drained hears.ready count _)))

end
end

section
/-! Notices (R186, R187) and hub request latches (R161, R176): NOTICE_READ removes the oldest record, HUB_REQUEST_TAKE
empties a hub's latch, HUB_READ leaves every latch in place. -/

namespace Sys2Proof.Machine

/-! ### Taken requests and the lines -/

/-- A request whose owner touches neither the alarm unit nor the notices leaves the lines as they follow already. -/
theorem Request.receive_taken_quiet {r : Request} {s t : State} {body : List WireField} (hears : s.Hears)
    (size : badLength r.len = false) (fits : r.fits = true) (takes : r.owner s = .take t body)
    (alarm : t.alarm = s.alarm) (notices : t.notices = s.notices) (attn : t.attn = s.attn)
    (pending : t.pending = s.pending) :
    r.receive s = .next { t with reply := taken r.kind body, rx := [] } := by
  obtain ⟨held, -⟩ := hears.ready.free
  have runs := Request.receive_taken hears.listening size fits takes
  exact runs.trans (congrArg Host.Outcome.next (finish_eq held hears.ready.2 alarm notices attn pending))

/-- ATTN follows the notice queue (R186), and nothing else does: the alarm lines follow the entries alone. -/
theorem finish_notices_replaced {s : State} (ready : s.Ready) (queue : List Notice) (reply : Option Reply) :
    finish s { s with notices := queue, reply := reply, rx := [] } =
      { s with notices := queue, attn := !queue.isEmpty, reply := reply, rx := [] } := by
  obtain ⟨held, -⟩ := ready.free
  have alarm : s.alarm.refresh = s.alarm := by
    have follows := ready.2
    simp only [State.LinesFollow, held] at follows
    exact follows.2
  show { s with notices := queue, attn := !queue.isEmpty, alarm := s.alarm.refresh, reply := reply, rx := [] } = _
  rw [alarm]

/-! ### Postings (R186) -/

/-- A posting from a source with no record makes a new record at the end. -/
theorem postTo_fresh {src : Source} {mask : Byte} {now : Nat} {ns : List Notice}
    (fresh : src ∉ ns.map (·.source)) :
    postTo src mask now ns = ns ++ [{ source := src, causes := mask, posted := now }] := by
  induction ns with
  | nil => rfl
  | cons n ns ih =>
    obtain ⟨other, absent⟩ := not_or.mp (mt List.mem_cons.mpr fresh)
    have kept : n.source ≠ src := fun same => other same.symm
    rw [postTo, if_neg kept, ih absent, List.cons_append]

/-- With one record per source, the queue behind the oldest record has none of its source. -/
theorem State.OneRecordPerSource.oldest_alone {s : State} (one : s.OneRecordPerSource) {n : Notice}
    {rest : List Notice} (queue : s.notices = n :: rest) : n.source ∉ rest.map (·.source) := by
  unfold State.OneRecordPerSource at one
  rw [queue] at one
  exact (List.nodup_cons.mp one).1

/-! ### NOTICE_READ (R187) -/

theorem exec_noticeRead (len : Nat) (s : State) : exec (.noticeRead len) s = (noticeReadRequest len).receive s := rfl

theorem noticeReadRequest_empty (len : Nat) {s : State} (empty : s.notices = []) :
    (noticeReadRequest len).owner s = .take s [.u8 0xFF, .u8 0, .u32 0, .u8 0] := by
  show noticeRead s = _
  simp [noticeRead, empty]

theorem noticeReadRequest_oldest (len : Nat) {s : State} {n : Notice} {rest : List Notice}
    (queue : s.notices = n :: rest) :
    (noticeReadRequest len).owner s = .take { s with notices := rest }
      [.u8 n.source.code, .u8 n.causes.toNat, .u32 n.posted, .u8 rest.length] := by
  show noticeRead s = _
  simp [noticeRead, queue]

theorem noticeRead_empty {s : State} (hears : s.Hears) (empty : s.notices = []) :
    Answers (.noticeRead 1) s s 0x62 [.u8 0xFF, .u8 0, .u32 0, .u8 0] :=
  (exec_noticeRead 1 s).trans
    (Request.receive_taken_quiet hears rfl rfl (noticeReadRequest_empty 1 empty) rfl rfl rfl rfl)

theorem noticeRead_oldest {s : State} (hears : s.Hears) {n : Notice} {rest : List Notice}
    (queue : s.notices = n :: rest) :
    Answers (.noticeRead 1) s { s with notices := rest, attn := !rest.isEmpty } 0x62
      [.u8 n.source.code, .u8 n.causes.toNat, .u32 n.posted, .u8 rest.length] := by
  have runs := Request.receive_taken hears.listening rfl rfl (noticeReadRequest_oldest 1 queue)
  exact (exec_noticeRead 1 s).trans
    (runs.trans (congrArg Host.Outcome.next (finish_notices_replaced hears.ready rest _)))

/-! ### The latches -/

/-- A hub's busy flag in the outbound frame is set exactly while its latch is full (R161). -/
theorem State.busy_assemble (s : State) (h : HubId) : s.assemble.busy[h] = (s.hub h).latch.isSome := by
  simp [State.assemble, State.hub]

@[simp] theorem State.setHub_hub (s : State) (h : HubId) : s.setHub h (s.hub h) = s := by
  simp [State.setHub, State.hub]

/-- Emptying an empty latch changes nothing. -/
theorem State.setHub_emptied {s : State} {h : HubId} (empty : (s.hub h).latch = none) :
    s.setHub h { s.hub h with latch := none } = s := by
  rw [← empty]
  exact s.setHub_hub h

/-- A hub whose latch has been emptied is not busy in the next outbound frame. -/
theorem State.busy_emptied (s : State) (h : HubId) :
    (s.setHub h { s.hub h with latch := none }).assemble.busy[h] = false := by
  rw [State.busy_assemble, State.hub_setHub_same]
  rfl

/-! ### HUB_REQUEST_TAKE (R176) and HUB_READ (R180) -/

theorem exec_hubRequestTake (len n : Nat) (s : State) :
    exec (.hubRequestTake len n) s = (hubRequestTakeRequest len n).receive s := rfl

theorem exec_hubRead (len n : Nat) (s : State) : exec (.hubRead len n) s = (hubReadRequest len n).receive s := rfl

theorem hubRequestTakeRequest_refused (len : Nat) {n : Nat} (out : 3 < n) (s : State) :
    (hubRequestTakeRequest len n).owner s = .refuse .range :=
  forObject_none out _

theorem hubRequestTakeRequest_taken (len : Nat) (h : HubId) (s : State) :
    (hubRequestTakeRequest len h).owner s =
      .take (s.setHub h { s.hub h with latch := none }) (latchWire (s.hub h).latch) :=
  forObject_val h _

theorem hubReadRequest_taken (len : Nat) (h : HubId) (s : State) :
    (hubReadRequest len h).owner s = .take s (hubBody s h) :=
  forObject_val h _

theorem hubRequestTake_refused {s : State} (hears : s.Hears) {n : Nat} (out : 3 < n) :
    Refuses (.hubRequestTake 2 n) s 0x05 .range :=
  (exec_hubRequestTake 2 n s).trans
    (Request.receive_refused hears.listening rfl rfl (hubRequestTakeRequest_refused 2 out s))

theorem hubRequestTake_taken {s : State} (hears : s.Hears) (h : HubId) :
    Answers (.hubRequestTake 2 h) s (s.setHub h { s.hub h with latch := none }) 0x05 (latchWire (s.hub h).latch) :=
  (exec_hubRequestTake 2 h s).trans
    (Request.receive_taken_quiet hears rfl rfl (hubRequestTakeRequest_taken 2 h s) rfl rfl rfl rfl)

theorem hubRead_taken {s : State} (hears : s.Hears) (h : HubId) :
    Answers (.hubRead 2 h) s s 0x04 (hubBody s h) :=
  (exec_hubRead 2 h s).trans
    (Request.receive_taken_quiet hears rfl rfl (hubReadRequest_taken 2 h s) rfl rfl rfl rfl)

end Sys2Proof.Machine

section
open Sys2Proof Sys2Proof.Machine

/-- Settles O13: NOTICE_READ takes the head of the queue, where one record per source leaves none of the head's source
behind, so that its next posting is appended; HUB_REQUEST_TAKE replies with the latch it empties, which on an empty latch
changes nothing; HUB_READ changes no record. -/
theorem noticesAndHubRequestsTaken : Obligations.NoticesAndHubRequestsTaken := by
  intro s hears
  refine ⟨noticeRead_empty hears, ?oldest, fun n => hubRequestTake_refused hears, ?full, ?emptyLatch, ?read⟩
  case oldest =>
    intro n rest queue
    exact ⟨_, noticeRead_oldest hears queue, rfl, fun one _ => postTo_fresh (one.oldest_alone queue)⟩
  case full =>
    intro h code index full
    have answers := hubRequestTake_taken hears h
    rw [full] at answers
    exact ⟨_, answers, rfl, s.busy_emptied h⟩
  case emptyLatch =>
    intro h empty
    have answers := hubRequestTake_taken hears h
    rwa [State.setHub_emptied empty, empty] at answers
  case read =>
    intro h
    exact ⟨_, hubRead_taken hears h, rfl⟩

end
end
